-- ==== Sys2Proof/Word.lean ====
section
/-! DEFINITION. The two word types of the hardware (R4: DATA_BITS 8, ADDR_BITS 16). -/

namespace Sys2Proof

/-- A `u8` of R5: a register other than `pc`, a memory cell, an operand byte. -/
abbrev Byte := BitVec 8

/-- A `u16` of R5: the program counter, an address. -/
abbrev Addr := BitVec 16

end Sys2Proof
end

