-- ==== Sys2Proof/Machine/Flags.lean ====
section
/-! DEFINITION. The flag computations and the sums they come from (R75, R105, R106). Every flag update is a
read-modify-write of the old `status` (R20). -/

namespace Sys2Proof.Machine

/-- The mask of Carry, bit 0 (R5, R16). -/
def maskC : Byte := 0x01#8

/-- The mask of Zero, bit 1 (R5, R16). -/
def maskZ : Byte := 0x02#8

/-- The mask of Negative, bit 7 (R5, R16). -/
def maskN : Byte := 0x80#8

/-- `SetZN(v)` on a status byte (R75). -/
def setZN (status v : Byte) : Byte :=
  let cleared := status &&& ~~~(maskN ||| maskZ)
  let withN := if v.getLsbD 7 then cleared ||| maskN else cleared
  if v = 0x00#8 then withN ||| maskZ else withN

/-- `carry_in`: status bit 0 as the number 0 or 1 (R5). -/
def carryIn (status : Byte) : Nat := if status.getLsbD 0 then 1 else 0

/-- ADC's carry update: set or cleared, no other bit (R105). -/
def setCarry (status : Byte) (carry : Bool) : Byte :=
  if carry then status ||| maskC else status &&& ~~~maskC

/-- The exact sum `r = a + m + carry_in` of ADC, 0 to 511 (R105). -/
def adcSum (a m : Byte) (carry : Nat) : Nat := a.toNat + m.toNat + carry

/-- The exact difference `r = a - m - (1 - carry_in)` of SBC, which may be negative (R106). -/
def sbcDifference (a m : Byte) (carry : Nat) : Int := (a.toNat : Int) - m.toNat - (1 - carry)

end Sys2Proof.Machine
end

