-- ==== Sys2Proof/Config.lean ====
section
/-! DEFINITION. What R4 fixes for this hardware, and the parameters it leaves OPEN, as opaque constants:
nothing in Lean can evaluate one or prove a value of it, so a theorem holds whatever they are. -/

namespace Sys2Proof.Config

/-- `MEM_SIZE`: the number of memory cells (R4, R30). -/
def memSize : Nat := 65536

/-- `STACK_BASE`: the base of the stack page (R4, R14). -/
def stackBase : Addr := 0x0100#16

/-- `RESET_VECTOR`, the address of the low byte (R4, R33 b). -/
def resetVectorLow : Addr := 0xFFFC#16

/-- `RESET_VECTOR`, the address of the high byte (R4, R33 b). -/
def resetVectorHigh : Addr := 0xFFFD#16

/-- `RESET_SP` (R4, R24). -/
def resetSp : Byte := 0xFD#8

/-- `RESET_STATUS` (R4, R24). -/
def resetStatus : Byte := 0x20#8

/-- `LOAD_DEFAULT`: the default start address of the host's load (R4, R46). -/
def loadDefault : Addr := 0x8000#16

/-- `DEFAULT_CYCLES`: the cycle cost of an unknown opcode (R4, R121). -/
def defaultCycles : Nat := 2

/-- `CLOCK_HZ`: the nominal clock, for information only; no rule reads it (R4, R163). -/
def clockHz : Nat := 1000000

/-- `CYCLES` (R4 OPEN, R163, D4; notes/assumptions/3.md): the cycle cost of a recognised opcode other than BRK,
a positive number the spec does not give. FREE VALUE. -/
opaque cycles : Byte → PNat

/-- `MEM_INIT` (R4 OPEN, R45, D5; notes/assumptions/1.md): what a byte of memory holds that neither the host nor the
program has written. FREE VALUE. -/
opaque memInit : Addr → Byte

end Sys2Proof.Config
end

