-- ==== Sys2Proof/Syntax.lean ====
section
/-! DEFINITION. The instruction set as syntax: one constructor per row of spec/opcode_table.json (R53, R54).
The thirteen recognised opcodes come first, in the order of the source's table, each with its operand;
then the 243 unknown opcode bytes of R54, `unknownXX` for the byte `0xXX`, none with an operand (R121). -/

namespace Sys2Proof

inductive Instr where
  /-- LDA #, `A9 imm8` (R90). -/
  | lda (imm : Byte)
  /-- LDX #, `A2 imm8` (R91). -/
  | ldx (imm : Byte)
  /-- LDY #, `A0 imm8` (R92). -/
  | ldy (imm : Byte)
  /-- STA zp, `85 zp8` (R95). -/
  | staZp (zp : Byte)
  /-- STA abs, `8D lo8 hi8` (R96); the operand is the assembled address of R52. -/
  | staAbs (addr : Addr)
  /-- INX, `E8` (R100). -/
  | inx
  /-- ADC #, `69 imm8` (R105). -/
  | adc (imm : Byte)
  /-- SBC #, `E9 imm8` (R106). -/
  | sbc (imm : Byte)
  /-- PHA, `48` (R110). -/
  | pha
  /-- PLA, `68` (R111). -/
  | pla
  /-- JSR, `20 lo8 hi8` (R115); the operand is the assembled target of R52. -/
  | jsr (target : Addr)
  /-- RTS, `60` (R116). -/
  | rts
  /-- BRK, `00` (R120). -/
  | brk
  -- R54: the unknown bytes 0x01 to 0x1F
  | unknown01 | unknown02 | unknown03 | unknown04 | unknown05 | unknown06 | unknown07 | unknown08
  | unknown09 | unknown0A | unknown0B | unknown0C | unknown0D | unknown0E | unknown0F | unknown10
  | unknown11 | unknown12 | unknown13 | unknown14 | unknown15 | unknown16 | unknown17 | unknown18
  | unknown19 | unknown1A | unknown1B | unknown1C | unknown1D | unknown1E | unknown1F
  -- R54: the unknown bytes 0x21 to 0x47
  | unknown21 | unknown22 | unknown23 | unknown24 | unknown25 | unknown26 | unknown27 | unknown28
  | unknown29 | unknown2A | unknown2B | unknown2C | unknown2D | unknown2E | unknown2F | unknown30
  | unknown31 | unknown32 | unknown33 | unknown34 | unknown35 | unknown36 | unknown37 | unknown38
  | unknown39 | unknown3A | unknown3B | unknown3C | unknown3D | unknown3E | unknown3F | unknown40
  | unknown41 | unknown42 | unknown43 | unknown44 | unknown45 | unknown46 | unknown47
  -- R54: the unknown bytes 0x49 to 0x5F
  | unknown49 | unknown4A | unknown4B | unknown4C | unknown4D | unknown4E | unknown4F | unknown50
  | unknown51 | unknown52 | unknown53 | unknown54 | unknown55 | unknown56 | unknown57 | unknown58
  | unknown59 | unknown5A | unknown5B | unknown5C | unknown5D | unknown5E | unknown5F
  -- R54: the unknown bytes 0x61 to 0x67
  | unknown61 | unknown62 | unknown63 | unknown64 | unknown65 | unknown66 | unknown67
  -- R54: the unknown bytes 0x6A to 0x84
  | unknown6A | unknown6B | unknown6C | unknown6D | unknown6E | unknown6F | unknown70 | unknown71
  | unknown72 | unknown73 | unknown74 | unknown75 | unknown76 | unknown77 | unknown78 | unknown79
  | unknown7A | unknown7B | unknown7C | unknown7D | unknown7E | unknown7F | unknown80 | unknown81
  | unknown82 | unknown83 | unknown84
  -- R54: the unknown bytes 0x86 to 0x8C
  | unknown86 | unknown87 | unknown88 | unknown89 | unknown8A | unknown8B | unknown8C
  -- R54: the unknown bytes 0x8E to 0x9F
  | unknown8E | unknown8F | unknown90 | unknown91 | unknown92 | unknown93 | unknown94 | unknown95
  | unknown96 | unknown97 | unknown98 | unknown99 | unknown9A | unknown9B | unknown9C | unknown9D
  | unknown9E | unknown9F
  -- R54: the unknown bytes 0xA1 to 0xA1
  | unknownA1
  -- R54: the unknown bytes 0xA3 to 0xA8
  | unknownA3 | unknownA4 | unknownA5 | unknownA6 | unknownA7 | unknownA8
  -- R54: the unknown bytes 0xAA to 0xE7
  | unknownAA | unknownAB | unknownAC | unknownAD | unknownAE | unknownAF | unknownB0 | unknownB1
  | unknownB2 | unknownB3 | unknownB4 | unknownB5 | unknownB6 | unknownB7 | unknownB8 | unknownB9
  | unknownBA | unknownBB | unknownBC | unknownBD | unknownBE | unknownBF | unknownC0 | unknownC1
  | unknownC2 | unknownC3 | unknownC4 | unknownC5 | unknownC6 | unknownC7 | unknownC8 | unknownC9
  | unknownCA | unknownCB | unknownCC | unknownCD | unknownCE | unknownCF | unknownD0 | unknownD1
  | unknownD2 | unknownD3 | unknownD4 | unknownD5 | unknownD6 | unknownD7 | unknownD8 | unknownD9
  | unknownDA | unknownDB | unknownDC | unknownDD | unknownDE | unknownDF | unknownE0 | unknownE1
  | unknownE2 | unknownE3 | unknownE4 | unknownE5 | unknownE6 | unknownE7
  -- R54: the unknown bytes 0xEA to 0xFF
  | unknownEA | unknownEB | unknownEC | unknownED | unknownEE | unknownEF | unknownF0 | unknownF1
  | unknownF2 | unknownF3 | unknownF4 | unknownF5 | unknownF6 | unknownF7 | unknownF8 | unknownF9
  | unknownFA | unknownFB | unknownFC | unknownFD | unknownFE | unknownFF
  deriving DecidableEq, Repr

end Sys2Proof
end

