-- ==== Sys2Proof/WellFormed.lean ====
section
/-! DEFINITION. Well-formedness. No instruction has a reserved or must-be-zero field and every value of every operand
byte is legal (R55), so the operand types say all there is to check about an instruction; a byte string is the
encoding of one instruction exactly if it has the length its first byte calls for (R60). -/

namespace Sys2Proof

/-- Every instruction is well formed: its operand's type admits the values the encoding admits and no other (R55). -/
def Instr.wf (_ : Instr) : Bool := true

/-- The length in bytes that an opcode byte calls for, as R60 tells it. -/
def lengthOfOpcode (b0 : Byte) : Nat :=
  if b0 ∈ [0xA9#8, 0xA2#8, 0xA0#8, 0x69#8, 0xE9#8, 0x85#8] then 2
  else if b0 ∈ [0x8D#8, 0x20#8] then 3
  else 1

/-- A byte string that is one whole instruction and nothing more (R50, R60). -/
def encodingWf : List Byte → Bool
  | [] => false
  | b0 :: rest => rest.length + 1 == lengthOfOpcode b0

end Sys2Proof
end

