-- ==== Sys2Proof/Decode.lean ====
section
/-! DEFINITION. The decoder and the encoder. The decoder is a lookup of the first byte in the 16 by 16 grid of R53,
with no default case: every one of the 256 values has its own entry (R80), and the whole byte selects it (R56).
The only byte strings it refuses are those that end before the instruction does. -/

namespace Sys2Proof

/-! ### Two bytes and a 16-bit word (R33, R52) -/

/-- The word of a high and a low byte, the number `hi*256 + lo` (R5). -/
def makeWord (hi lo : Byte) : Addr := BitVec.ofNat 16 (hi.toNat * 256 + lo.toNat)

/-- Bits 15..8 of a word (R5). -/
def highByte (w : Addr) : Byte := BitVec.ofNat 8 (w.toNat / 256)

/-- Bits 7..0 of a word (R5). -/
def lowByte (w : Addr) : Byte := BitVec.ofNat 8 w.toNat

/-! ### The opcode grid (R53) -/

/-- What an opcode byte calls for: one of the four formats of R51, with the instruction made from its operand. -/
inductive Entry where
  /-- Format IMP: no operand byte. -/
  | imp (i : Instr)
  /-- Format IMM: one operand byte, the value itself. -/
  | imm (make : Byte → Instr)
  /-- Format ZP: one operand byte, an address in page zero. -/
  | zp (make : Byte → Instr)
  /-- Format ABS: two operand bytes, an address, low byte first. -/
  | abs (make : Addr → Instr)

/-- The length of an instruction of an entry's format (R51). -/
def Entry.length : Entry → Nat
  | .imp _ => 1
  | .imm _ => 2
  | .zp _ => 2
  | .abs _ => 3

/-- Row `0x` of the grid of R53. -/
def opcodeRow0 : List Entry :=
  [.imp .brk, .imp .unknown01, .imp .unknown02, .imp .unknown03,
   .imp .unknown04, .imp .unknown05, .imp .unknown06, .imp .unknown07,
   .imp .unknown08, .imp .unknown09, .imp .unknown0A, .imp .unknown0B,
   .imp .unknown0C, .imp .unknown0D, .imp .unknown0E, .imp .unknown0F]

/-- Row `1x` of the grid of R53. -/
def opcodeRow1 : List Entry :=
  [.imp .unknown10, .imp .unknown11, .imp .unknown12, .imp .unknown13,
   .imp .unknown14, .imp .unknown15, .imp .unknown16, .imp .unknown17,
   .imp .unknown18, .imp .unknown19, .imp .unknown1A, .imp .unknown1B,
   .imp .unknown1C, .imp .unknown1D, .imp .unknown1E, .imp .unknown1F]

/-- Row `2x` of the grid of R53. -/
def opcodeRow2 : List Entry :=
  [.abs .jsr, .imp .unknown21, .imp .unknown22, .imp .unknown23,
   .imp .unknown24, .imp .unknown25, .imp .unknown26, .imp .unknown27,
   .imp .unknown28, .imp .unknown29, .imp .unknown2A, .imp .unknown2B,
   .imp .unknown2C, .imp .unknown2D, .imp .unknown2E, .imp .unknown2F]

/-- Row `3x` of the grid of R53. -/
def opcodeRow3 : List Entry :=
  [.imp .unknown30, .imp .unknown31, .imp .unknown32, .imp .unknown33,
   .imp .unknown34, .imp .unknown35, .imp .unknown36, .imp .unknown37,
   .imp .unknown38, .imp .unknown39, .imp .unknown3A, .imp .unknown3B,
   .imp .unknown3C, .imp .unknown3D, .imp .unknown3E, .imp .unknown3F]

/-- Row `4x` of the grid of R53. -/
def opcodeRow4 : List Entry :=
  [.imp .unknown40, .imp .unknown41, .imp .unknown42, .imp .unknown43,
   .imp .unknown44, .imp .unknown45, .imp .unknown46, .imp .unknown47,
   .imp .pha, .imp .unknown49, .imp .unknown4A, .imp .unknown4B,
   .imp .unknown4C, .imp .unknown4D, .imp .unknown4E, .imp .unknown4F]

/-- Row `5x` of the grid of R53. -/
def opcodeRow5 : List Entry :=
  [.imp .unknown50, .imp .unknown51, .imp .unknown52, .imp .unknown53,
   .imp .unknown54, .imp .unknown55, .imp .unknown56, .imp .unknown57,
   .imp .unknown58, .imp .unknown59, .imp .unknown5A, .imp .unknown5B,
   .imp .unknown5C, .imp .unknown5D, .imp .unknown5E, .imp .unknown5F]

/-- Row `6x` of the grid of R53. -/
def opcodeRow6 : List Entry :=
  [.imp .rts, .imp .unknown61, .imp .unknown62, .imp .unknown63,
   .imp .unknown64, .imp .unknown65, .imp .unknown66, .imp .unknown67,
   .imp .pla, .imm .adc, .imp .unknown6A, .imp .unknown6B,
   .imp .unknown6C, .imp .unknown6D, .imp .unknown6E, .imp .unknown6F]

/-- Row `7x` of the grid of R53. -/
def opcodeRow7 : List Entry :=
  [.imp .unknown70, .imp .unknown71, .imp .unknown72, .imp .unknown73,
   .imp .unknown74, .imp .unknown75, .imp .unknown76, .imp .unknown77,
   .imp .unknown78, .imp .unknown79, .imp .unknown7A, .imp .unknown7B,
   .imp .unknown7C, .imp .unknown7D, .imp .unknown7E, .imp .unknown7F]

/-- Row `8x` of the grid of R53. -/
def opcodeRow8 : List Entry :=
  [.imp .unknown80, .imp .unknown81, .imp .unknown82, .imp .unknown83,
   .imp .unknown84, .zp .staZp, .imp .unknown86, .imp .unknown87,
   .imp .unknown88, .imp .unknown89, .imp .unknown8A, .imp .unknown8B,
   .imp .unknown8C, .abs .staAbs, .imp .unknown8E, .imp .unknown8F]

/-- Row `9x` of the grid of R53. -/
def opcodeRow9 : List Entry :=
  [.imp .unknown90, .imp .unknown91, .imp .unknown92, .imp .unknown93,
   .imp .unknown94, .imp .unknown95, .imp .unknown96, .imp .unknown97,
   .imp .unknown98, .imp .unknown99, .imp .unknown9A, .imp .unknown9B,
   .imp .unknown9C, .imp .unknown9D, .imp .unknown9E, .imp .unknown9F]

/-- Row `Ax` of the grid of R53. -/
def opcodeRowA : List Entry :=
  [.imm .ldy, .imp .unknownA1, .imm .ldx, .imp .unknownA3,
   .imp .unknownA4, .imp .unknownA5, .imp .unknownA6, .imp .unknownA7,
   .imp .unknownA8, .imm .lda, .imp .unknownAA, .imp .unknownAB,
   .imp .unknownAC, .imp .unknownAD, .imp .unknownAE, .imp .unknownAF]

/-- Row `Bx` of the grid of R53. -/
def opcodeRowB : List Entry :=
  [.imp .unknownB0, .imp .unknownB1, .imp .unknownB2, .imp .unknownB3,
   .imp .unknownB4, .imp .unknownB5, .imp .unknownB6, .imp .unknownB7,
   .imp .unknownB8, .imp .unknownB9, .imp .unknownBA, .imp .unknownBB,
   .imp .unknownBC, .imp .unknownBD, .imp .unknownBE, .imp .unknownBF]

/-- Row `Cx` of the grid of R53. -/
def opcodeRowC : List Entry :=
  [.imp .unknownC0, .imp .unknownC1, .imp .unknownC2, .imp .unknownC3,
   .imp .unknownC4, .imp .unknownC5, .imp .unknownC6, .imp .unknownC7,
   .imp .unknownC8, .imp .unknownC9, .imp .unknownCA, .imp .unknownCB,
   .imp .unknownCC, .imp .unknownCD, .imp .unknownCE, .imp .unknownCF]

/-- Row `Dx` of the grid of R53. -/
def opcodeRowD : List Entry :=
  [.imp .unknownD0, .imp .unknownD1, .imp .unknownD2, .imp .unknownD3,
   .imp .unknownD4, .imp .unknownD5, .imp .unknownD6, .imp .unknownD7,
   .imp .unknownD8, .imp .unknownD9, .imp .unknownDA, .imp .unknownDB,
   .imp .unknownDC, .imp .unknownDD, .imp .unknownDE, .imp .unknownDF]

/-- Row `Ex` of the grid of R53. -/
def opcodeRowE : List Entry :=
  [.imp .unknownE0, .imp .unknownE1, .imp .unknownE2, .imp .unknownE3,
   .imp .unknownE4, .imp .unknownE5, .imp .unknownE6, .imp .unknownE7,
   .imp .inx, .imm .sbc, .imp .unknownEA, .imp .unknownEB,
   .imp .unknownEC, .imp .unknownED, .imp .unknownEE, .imp .unknownEF]

/-- Row `Fx` of the grid of R53. -/
def opcodeRowF : List Entry :=
  [.imp .unknownF0, .imp .unknownF1, .imp .unknownF2, .imp .unknownF3,
   .imp .unknownF4, .imp .unknownF5, .imp .unknownF6, .imp .unknownF7,
   .imp .unknownF8, .imp .unknownF9, .imp .unknownFA, .imp .unknownFB,
   .imp .unknownFC, .imp .unknownFD, .imp .unknownFE, .imp .unknownFF]

/-- The grid of R53, row by row: the high nibble picks the row, the low nibble the column. -/
def opcodeGrid : List (List Entry) :=
  [opcodeRow0, opcodeRow1, opcodeRow2, opcodeRow3, opcodeRow4, opcodeRow5, opcodeRow6, opcodeRow7] ++
  [opcodeRow8, opcodeRow9, opcodeRowA, opcodeRowB, opcodeRowC, opcodeRowD, opcodeRowE, opcodeRowF]

/-- The entry of an opcode byte. The two defaults are never taken: the grid is 16 rows of 16
(`opcodeGrid_full` in Laws/Decode.lean). -/
def opcodeEntry (op : Byte) : Entry :=
  (opcodeGrid.getD (op.toNat / 16) []).getD (op.toNat % 16) (.imp .brk)

/-! ### The decoder -/

/-- Why a byte string is no instruction. No byte value is refused; only a missing byte is. -/
inductive DecodeError where
  /-- There is no byte at all. -/
  | noOpcode
  /-- The opcode's operand bytes are not all there. -/
  | missingOperand (op : Byte)
  deriving DecidableEq, Repr

/-- The first instruction of a byte string, with the bytes after it (R50 to R53). -/
def decode : List Byte → Except DecodeError (Instr × List Byte)
  | [] => .error .noOpcode
  | op :: rest =>
    match opcodeEntry op, rest with
    | .imp i, rest => .ok (i, rest)
    | .imm make, b1 :: rest => .ok (make b1, rest)
    | .zp make, b1 :: rest => .ok (make b1, rest)
    | .abs make, b1 :: b2 :: rest => .ok (make (makeWord b2 b1), rest)
    | .imm _, [] => .error (.missingOperand op)
    | .zp _, [] => .error (.missingOperand op)
    | .abs _, _ => .error (.missingOperand op)

/-! ### The encoder -/

/-- The opcode byte of an instruction (R53, R54). -/
def Instr.opcode : Instr → Byte
  | .lda _ => 0xA9#8
  | .ldx _ => 0xA2#8
  | .ldy _ => 0xA0#8
  | .staZp _ => 0x85#8
  | .staAbs _ => 0x8D#8
  | .inx => 0xE8#8
  | .adc _ => 0x69#8
  | .sbc _ => 0xE9#8
  | .pha => 0x48#8
  | .pla => 0x68#8
  | .jsr _ => 0x20#8
  | .rts => 0x60#8
  | .brk => 0x00#8
  | .unknown01 => 0x01#8
  | .unknown02 => 0x02#8
  | .unknown03 => 0x03#8
  | .unknown04 => 0x04#8
  | .unknown05 => 0x05#8
  | .unknown06 => 0x06#8
  | .unknown07 => 0x07#8
  | .unknown08 => 0x08#8
  | .unknown09 => 0x09#8
  | .unknown0A => 0x0A#8
  | .unknown0B => 0x0B#8
  | .unknown0C => 0x0C#8
  | .unknown0D => 0x0D#8
  | .unknown0E => 0x0E#8
  | .unknown0F => 0x0F#8
  | .unknown10 => 0x10#8
  | .unknown11 => 0x11#8
  | .unknown12 => 0x12#8
  | .unknown13 => 0x13#8
  | .unknown14 => 0x14#8
  | .unknown15 => 0x15#8
  | .unknown16 => 0x16#8
  | .unknown17 => 0x17#8
  | .unknown18 => 0x18#8
  | .unknown19 => 0x19#8
  | .unknown1A => 0x1A#8
  | .unknown1B => 0x1B#8
  | .unknown1C => 0x1C#8
  | .unknown1D => 0x1D#8
  | .unknown1E => 0x1E#8
  | .unknown1F => 0x1F#8
  | .unknown21 => 0x21#8
  | .unknown22 => 0x22#8
  | .unknown23 => 0x23#8
  | .unknown24 => 0x24#8
  | .unknown25 => 0x25#8
  | .unknown26 => 0x26#8
  | .unknown27 => 0x27#8
  | .unknown28 => 0x28#8
  | .unknown29 => 0x29#8
  | .unknown2A => 0x2A#8
  | .unknown2B => 0x2B#8
  | .unknown2C => 0x2C#8
  | .unknown2D => 0x2D#8
  | .unknown2E => 0x2E#8
  | .unknown2F => 0x2F#8
  | .unknown30 => 0x30#8
  | .unknown31 => 0x31#8
  | .unknown32 => 0x32#8
  | .unknown33 => 0x33#8
  | .unknown34 => 0x34#8
  | .unknown35 => 0x35#8
  | .unknown36 => 0x36#8
  | .unknown37 => 0x37#8
  | .unknown38 => 0x38#8
  | .unknown39 => 0x39#8
  | .unknown3A => 0x3A#8
  | .unknown3B => 0x3B#8
  | .unknown3C => 0x3C#8
  | .unknown3D => 0x3D#8
  | .unknown3E => 0x3E#8
  | .unknown3F => 0x3F#8
  | .unknown40 => 0x40#8
  | .unknown41 => 0x41#8
  | .unknown42 => 0x42#8
  | .unknown43 => 0x43#8
  | .unknown44 => 0x44#8
  | .unknown45 => 0x45#8
  | .unknown46 => 0x46#8
  | .unknown47 => 0x47#8
  | .unknown49 => 0x49#8
  | .unknown4A => 0x4A#8
  | .unknown4B => 0x4B#8
  | .unknown4C => 0x4C#8
  | .unknown4D => 0x4D#8
  | .unknown4E => 0x4E#8
  | .unknown4F => 0x4F#8
  | .unknown50 => 0x50#8
  | .unknown51 => 0x51#8
  | .unknown52 => 0x52#8
  | .unknown53 => 0x53#8
  | .unknown54 => 0x54#8
  | .unknown55 => 0x55#8
  | .unknown56 => 0x56#8
  | .unknown57 => 0x57#8
  | .unknown58 => 0x58#8
  | .unknown59 => 0x59#8
  | .unknown5A => 0x5A#8
  | .unknown5B => 0x5B#8
  | .unknown5C => 0x5C#8
  | .unknown5D => 0x5D#8
  | .unknown5E => 0x5E#8
  | .unknown5F => 0x5F#8
  | .unknown61 => 0x61#8
  | .unknown62 => 0x62#8
  | .unknown63 => 0x63#8
  | .unknown64 => 0x64#8
  | .unknown65 => 0x65#8
  | .unknown66 => 0x66#8
  | .unknown67 => 0x67#8
  | .unknown6A => 0x6A#8
  | .unknown6B => 0x6B#8
  | .unknown6C => 0x6C#8
  | .unknown6D => 0x6D#8
  | .unknown6E => 0x6E#8
  | .unknown6F => 0x6F#8
  | .unknown70 => 0x70#8
  | .unknown71 => 0x71#8
  | .unknown72 => 0x72#8
  | .unknown73 => 0x73#8
  | .unknown74 => 0x74#8
  | .unknown75 => 0x75#8
  | .unknown76 => 0x76#8
  | .unknown77 => 0x77#8
  | .unknown78 => 0x78#8
  | .unknown79 => 0x79#8
  | .unknown7A => 0x7A#8
  | .unknown7B => 0x7B#8
  | .unknown7C => 0x7C#8
  | .unknown7D => 0x7D#8
  | .unknown7E => 0x7E#8
  | .unknown7F => 0x7F#8
  | .unknown80 => 0x80#8
  | .unknown81 => 0x81#8
  | .unknown82 => 0x82#8
  | .unknown83 => 0x83#8
  | .unknown84 => 0x84#8
  | .unknown86 => 0x86#8
  | .unknown87 => 0x87#8
  | .unknown88 => 0x88#8
  | .unknown89 => 0x89#8
  | .unknown8A => 0x8A#8
  | .unknown8B => 0x8B#8
  | .unknown8C => 0x8C#8
  | .unknown8E => 0x8E#8
  | .unknown8F => 0x8F#8
  | .unknown90 => 0x90#8
  | .unknown91 => 0x91#8
  | .unknown92 => 0x92#8
  | .unknown93 => 0x93#8
  | .unknown94 => 0x94#8
  | .unknown95 => 0x95#8
  | .unknown96 => 0x96#8
  | .unknown97 => 0x97#8
  | .unknown98 => 0x98#8
  | .unknown99 => 0x99#8
  | .unknown9A => 0x9A#8
  | .unknown9B => 0x9B#8
  | .unknown9C => 0x9C#8
  | .unknown9D => 0x9D#8
  | .unknown9E => 0x9E#8
  | .unknown9F => 0x9F#8
  | .unknownA1 => 0xA1#8
  | .unknownA3 => 0xA3#8
  | .unknownA4 => 0xA4#8
  | .unknownA5 => 0xA5#8
  | .unknownA6 => 0xA6#8
  | .unknownA7 => 0xA7#8
  | .unknownA8 => 0xA8#8
  | .unknownAA => 0xAA#8
  | .unknownAB => 0xAB#8
  | .unknownAC => 0xAC#8
  | .unknownAD => 0xAD#8
  | .unknownAE => 0xAE#8
  | .unknownAF => 0xAF#8
  | .unknownB0 => 0xB0#8
  | .unknownB1 => 0xB1#8
  | .unknownB2 => 0xB2#8
  | .unknownB3 => 0xB3#8
  | .unknownB4 => 0xB4#8
  | .unknownB5 => 0xB5#8
  | .unknownB6 => 0xB6#8
  | .unknownB7 => 0xB7#8
  | .unknownB8 => 0xB8#8
  | .unknownB9 => 0xB9#8
  | .unknownBA => 0xBA#8
  | .unknownBB => 0xBB#8
  | .unknownBC => 0xBC#8
  | .unknownBD => 0xBD#8
  | .unknownBE => 0xBE#8
  | .unknownBF => 0xBF#8
  | .unknownC0 => 0xC0#8
  | .unknownC1 => 0xC1#8
  | .unknownC2 => 0xC2#8
  | .unknownC3 => 0xC3#8
  | .unknownC4 => 0xC4#8
  | .unknownC5 => 0xC5#8
  | .unknownC6 => 0xC6#8
  | .unknownC7 => 0xC7#8
  | .unknownC8 => 0xC8#8
  | .unknownC9 => 0xC9#8
  | .unknownCA => 0xCA#8
  | .unknownCB => 0xCB#8
  | .unknownCC => 0xCC#8
  | .unknownCD => 0xCD#8
  | .unknownCE => 0xCE#8
  | .unknownCF => 0xCF#8
  | .unknownD0 => 0xD0#8
  | .unknownD1 => 0xD1#8
  | .unknownD2 => 0xD2#8
  | .unknownD3 => 0xD3#8
  | .unknownD4 => 0xD4#8
  | .unknownD5 => 0xD5#8
  | .unknownD6 => 0xD6#8
  | .unknownD7 => 0xD7#8
  | .unknownD8 => 0xD8#8
  | .unknownD9 => 0xD9#8
  | .unknownDA => 0xDA#8
  | .unknownDB => 0xDB#8
  | .unknownDC => 0xDC#8
  | .unknownDD => 0xDD#8
  | .unknownDE => 0xDE#8
  | .unknownDF => 0xDF#8
  | .unknownE0 => 0xE0#8
  | .unknownE1 => 0xE1#8
  | .unknownE2 => 0xE2#8
  | .unknownE3 => 0xE3#8
  | .unknownE4 => 0xE4#8
  | .unknownE5 => 0xE5#8
  | .unknownE6 => 0xE6#8
  | .unknownE7 => 0xE7#8
  | .unknownEA => 0xEA#8
  | .unknownEB => 0xEB#8
  | .unknownEC => 0xEC#8
  | .unknownED => 0xED#8
  | .unknownEE => 0xEE#8
  | .unknownEF => 0xEF#8
  | .unknownF0 => 0xF0#8
  | .unknownF1 => 0xF1#8
  | .unknownF2 => 0xF2#8
  | .unknownF3 => 0xF3#8
  | .unknownF4 => 0xF4#8
  | .unknownF5 => 0xF5#8
  | .unknownF6 => 0xF6#8
  | .unknownF7 => 0xF7#8
  | .unknownF8 => 0xF8#8
  | .unknownF9 => 0xF9#8
  | .unknownFA => 0xFA#8
  | .unknownFB => 0xFB#8
  | .unknownFC => 0xFC#8
  | .unknownFD => 0xFD#8
  | .unknownFE => 0xFE#8
  | .unknownFF => 0xFF#8

/-- The operand bytes of an instruction, in memory order (R51, R52). -/
def Instr.operandBytes : Instr → List Byte
  | .lda imm | .ldx imm | .ldy imm | .adc imm | .sbc imm => [imm]
  | .staZp zp => [zp]
  | .staAbs w | .jsr w => [lowByte w, highByte w]
  | .inx | .pha | .pla | .rts | .brk | .unknown01 | .unknown02 | .unknown03 | .unknown04 | .unknown05
  | .unknown06 | .unknown07 | .unknown08 | .unknown09 | .unknown0A | .unknown0B | .unknown0C | .unknown0D | .unknown0E | .unknown0F
  | .unknown10 | .unknown11 | .unknown12 | .unknown13 | .unknown14 | .unknown15 | .unknown16 | .unknown17 | .unknown18 | .unknown19
  | .unknown1A | .unknown1B | .unknown1C | .unknown1D | .unknown1E | .unknown1F | .unknown21 | .unknown22 | .unknown23 | .unknown24
  | .unknown25 | .unknown26 | .unknown27 | .unknown28 | .unknown29 | .unknown2A | .unknown2B | .unknown2C | .unknown2D | .unknown2E
  | .unknown2F | .unknown30 | .unknown31 | .unknown32 | .unknown33 | .unknown34 | .unknown35 | .unknown36 | .unknown37 | .unknown38
  | .unknown39 | .unknown3A | .unknown3B | .unknown3C | .unknown3D | .unknown3E | .unknown3F | .unknown40 | .unknown41 | .unknown42
  | .unknown43 | .unknown44 | .unknown45 | .unknown46 | .unknown47 | .unknown49 | .unknown4A | .unknown4B | .unknown4C | .unknown4D
  | .unknown4E | .unknown4F | .unknown50 | .unknown51 | .unknown52 | .unknown53 | .unknown54 | .unknown55 | .unknown56 | .unknown57
  | .unknown58 | .unknown59 | .unknown5A | .unknown5B | .unknown5C | .unknown5D | .unknown5E | .unknown5F | .unknown61 | .unknown62
  | .unknown63 | .unknown64 | .unknown65 | .unknown66 | .unknown67 | .unknown6A | .unknown6B | .unknown6C | .unknown6D | .unknown6E
  | .unknown6F | .unknown70 | .unknown71 | .unknown72 | .unknown73 | .unknown74 | .unknown75 | .unknown76 | .unknown77 | .unknown78
  | .unknown79 | .unknown7A | .unknown7B | .unknown7C | .unknown7D | .unknown7E | .unknown7F | .unknown80 | .unknown81 | .unknown82
  | .unknown83 | .unknown84 | .unknown86 | .unknown87 | .unknown88 | .unknown89 | .unknown8A | .unknown8B | .unknown8C | .unknown8E
  | .unknown8F | .unknown90 | .unknown91 | .unknown92 | .unknown93 | .unknown94 | .unknown95 | .unknown96 | .unknown97 | .unknown98
  | .unknown99 | .unknown9A | .unknown9B | .unknown9C | .unknown9D | .unknown9E | .unknown9F | .unknownA1 | .unknownA3 | .unknownA4
  | .unknownA5 | .unknownA6 | .unknownA7 | .unknownA8 | .unknownAA | .unknownAB | .unknownAC | .unknownAD | .unknownAE | .unknownAF
  | .unknownB0 | .unknownB1 | .unknownB2 | .unknownB3 | .unknownB4 | .unknownB5 | .unknownB6 | .unknownB7 | .unknownB8 | .unknownB9
  | .unknownBA | .unknownBB | .unknownBC | .unknownBD | .unknownBE | .unknownBF | .unknownC0 | .unknownC1 | .unknownC2 | .unknownC3
  | .unknownC4 | .unknownC5 | .unknownC6 | .unknownC7 | .unknownC8 | .unknownC9 | .unknownCA | .unknownCB | .unknownCC | .unknownCD
  | .unknownCE | .unknownCF | .unknownD0 | .unknownD1 | .unknownD2 | .unknownD3 | .unknownD4 | .unknownD5 | .unknownD6 | .unknownD7
  | .unknownD8 | .unknownD9 | .unknownDA | .unknownDB | .unknownDC | .unknownDD | .unknownDE | .unknownDF | .unknownE0 | .unknownE1
  | .unknownE2 | .unknownE3 | .unknownE4 | .unknownE5 | .unknownE6 | .unknownE7 | .unknownEA | .unknownEB | .unknownEC | .unknownED
  | .unknownEE | .unknownEF | .unknownF0 | .unknownF1 | .unknownF2 | .unknownF3 | .unknownF4 | .unknownF5 | .unknownF6 | .unknownF7
  | .unknownF8 | .unknownF9 | .unknownFA | .unknownFB | .unknownFC | .unknownFD | .unknownFE | .unknownFF => []

/-- The bytes of an instruction in memory order: its opcode, then its operand bytes (R50, R51). -/
def encode (i : Instr) : List Byte := i.opcode :: i.operandBytes

/-- The length of an instruction in bytes (R50). -/
def Instr.length (i : Instr) : Nat := (encode i).length

/-- The opcode byte of an unknown opcode (R54), none for the thirteen recognised instructions. -/
def Instr.unknownByte (i : Instr) : Option Byte :=
  match i with
  | .lda _ => none
  | .ldx _ => none
  | .ldy _ => none
  | .staZp _ => none
  | .staAbs _ => none
  | .inx => none
  | .adc _ => none
  | .sbc _ => none
  | .pha => none
  | .pla => none
  | .jsr _ => none
  | .rts => none
  | .brk => none
  | .unknown01 | .unknown02 | .unknown03 | .unknown04 | .unknown05 | .unknown06 | .unknown07 | .unknown08
  | .unknown09 | .unknown0A | .unknown0B | .unknown0C | .unknown0D | .unknown0E | .unknown0F | .unknown10
  | .unknown11 | .unknown12 | .unknown13 | .unknown14 | .unknown15 | .unknown16 | .unknown17 | .unknown18
  | .unknown19 | .unknown1A | .unknown1B | .unknown1C | .unknown1D | .unknown1E | .unknown1F | .unknown21
  | .unknown22 | .unknown23 | .unknown24 | .unknown25 | .unknown26 | .unknown27 | .unknown28 | .unknown29
  | .unknown2A | .unknown2B | .unknown2C | .unknown2D | .unknown2E | .unknown2F | .unknown30 | .unknown31
  | .unknown32 | .unknown33 | .unknown34 | .unknown35 | .unknown36 | .unknown37 | .unknown38 | .unknown39
  | .unknown3A | .unknown3B | .unknown3C | .unknown3D | .unknown3E | .unknown3F | .unknown40 | .unknown41
  | .unknown42 | .unknown43 | .unknown44 | .unknown45 | .unknown46 | .unknown47 | .unknown49 | .unknown4A
  | .unknown4B | .unknown4C | .unknown4D | .unknown4E | .unknown4F | .unknown50 | .unknown51 | .unknown52
  | .unknown53 | .unknown54 | .unknown55 | .unknown56 | .unknown57 | .unknown58 | .unknown59 | .unknown5A
  | .unknown5B | .unknown5C | .unknown5D | .unknown5E | .unknown5F | .unknown61 | .unknown62 | .unknown63
  | .unknown64 | .unknown65 | .unknown66 | .unknown67 | .unknown6A | .unknown6B | .unknown6C | .unknown6D
  | .unknown6E | .unknown6F | .unknown70 | .unknown71 | .unknown72 | .unknown73 | .unknown74 | .unknown75
  | .unknown76 | .unknown77 | .unknown78 | .unknown79 | .unknown7A | .unknown7B | .unknown7C | .unknown7D
  | .unknown7E | .unknown7F | .unknown80 | .unknown81 | .unknown82 | .unknown83 | .unknown84 | .unknown86
  | .unknown87 | .unknown88 | .unknown89 | .unknown8A | .unknown8B | .unknown8C | .unknown8E | .unknown8F
  | .unknown90 | .unknown91 | .unknown92 | .unknown93 | .unknown94 | .unknown95 | .unknown96 | .unknown97
  | .unknown98 | .unknown99 | .unknown9A | .unknown9B | .unknown9C | .unknown9D | .unknown9E | .unknown9F
  | .unknownA1 | .unknownA3 | .unknownA4 | .unknownA5 | .unknownA6 | .unknownA7 | .unknownA8 | .unknownAA
  | .unknownAB | .unknownAC | .unknownAD | .unknownAE | .unknownAF | .unknownB0 | .unknownB1 | .unknownB2
  | .unknownB3 | .unknownB4 | .unknownB5 | .unknownB6 | .unknownB7 | .unknownB8 | .unknownB9 | .unknownBA
  | .unknownBB | .unknownBC | .unknownBD | .unknownBE | .unknownBF | .unknownC0 | .unknownC1 | .unknownC2
  | .unknownC3 | .unknownC4 | .unknownC5 | .unknownC6 | .unknownC7 | .unknownC8 | .unknownC9 | .unknownCA
  | .unknownCB | .unknownCC | .unknownCD | .unknownCE | .unknownCF | .unknownD0 | .unknownD1 | .unknownD2
  | .unknownD3 | .unknownD4 | .unknownD5 | .unknownD6 | .unknownD7 | .unknownD8 | .unknownD9 | .unknownDA
  | .unknownDB | .unknownDC | .unknownDD | .unknownDE | .unknownDF | .unknownE0 | .unknownE1 | .unknownE2
  | .unknownE3 | .unknownE4 | .unknownE5 | .unknownE6 | .unknownE7 | .unknownEA | .unknownEB | .unknownEC
  | .unknownED | .unknownEE | .unknownEF | .unknownF0 | .unknownF1 | .unknownF2 | .unknownF3 | .unknownF4
  | .unknownF5 | .unknownF6 | .unknownF7 | .unknownF8 | .unknownF9 | .unknownFA | .unknownFB | .unknownFC
  | .unknownFD | .unknownFE | .unknownFF => some i.opcode

/-! ### The words of spec/opcode_table.json -/

/-- The three bytes of an instruction word whose bit 0 is the least significant bit of the first byte and
whose bits above `nbits` are zero. -/
def tableBytes (nbits w : Nat) : List Byte :=
  let w := w % 2 ^ nbits
  [BitVec.ofNat 8 w, BitVec.ofNat 8 (w / 256), BitVec.ofNat 8 (w / 65536)]

/-- The instruction the decoder reads from a word of the table. -/
def decodeTableWord (nbits w : Nat) : Option Instr :=
  match decode (tableBytes nbits w) with
  | .ok (i, _) => some i
  | .error _ => none

end Sys2Proof
end

