-- ==== Sys2Proof/Machine/Operands.lean ====
section
/-! DEFINITION. The addressing modes of the subset (R52, and the table of 42_store.md). Nothing is sign-extended,
scaled or indexed. The immediate operand is its byte. -/

namespace Sys2Proof.Machine

/-- Zero-page: the operand byte zero-extended, an address in `0x0000` to `0x00FF` (R44 c, R52). -/
def zeroPageAddr (zp : Byte) : Addr := zp.setWidth 16

/-- Absolute: the word of the two operand bytes, low byte first (R44 d, R52). The decoder and FetchWord assemble it;
it is the address as it stands. -/
def absoluteAddr (w : Addr) : Addr := w

/-- Stack: `0x0100 + sp`, always in `0x0100` to `0x01FF` (R14, R44 b). -/
def stackAddr (sp : Byte) : Addr := Config.stackBase + sp.setWidth 16

end Sys2Proof.Machine
end

