-- ==== Sys2Proof/Machine/Memory.lean ====
section
/-! DEFINITION. The memory: one flat space of 65536 bytes (R30), as a list of the cells that have been written.
A byte nothing has written holds MEM_INIT, an open parameter (R45): it reads as a free value. -/

namespace Sys2Proof.Machine

/-- The written cells, addresses strictly rising. -/
abbrev Memory := List Host.Cell

namespace Memory

/-- What an address reads as that no cell lists: the open parameter MEM_INIT, which must not be assumed to be zero
(R45, D5; notes/assumptions/1.md). -/
def unlisted (a : Addr) : Byte := Config.memInit a

/-- The byte a list of cells gives an address, if it lists it. -/
def lookup : Memory → Nat → Option Byte
  | [], _ => none
  | (k, v) :: m, a => if k = a then some v else lookup m a

/-- The cells after a byte is put at an address: the one place where the canonical form is kept. -/
def insert : Memory → Nat → Byte → Memory
  | [], a, v => [(a, v)]
  | (k, u) :: m, a, v =>
    if a < k then (a, v) :: (k, u) :: m
    else if a = k then (a, v) :: m
    else (k, u) :: insert m a v

/-- `MemRead(addr, 1)` (R31): the latest byte written there, or MEM_INIT where there was none. -/
def read (m : Memory) (a : Addr) : Byte := (lookup m a.toNat).getD (unlisted a)

/-- `MemWrite(addr, 1, v)` (R31): that one cell is replaced. -/
def write (m : Memory) (a : Addr) (v : Byte) : Memory := insert m a.toNat v

/-- The little-endian word whose low byte is at `lo` and whose high byte is at `hi` (R33). -/
def readWord (m : Memory) (lo hi : Addr) : Addr := makeWord (m.read hi) (m.read lo)

/-- Bytes written one after the other from an address on. -/
def writeBytes (m : Memory) (a : Addr) : List Byte → Memory
  | [] => m
  | b :: bs => writeBytes (m.write a b) (a + 1#16) bs

/-- The memory after the host's load (R46): the image first, then the two bytes of the reset vector. -/
def load (m : Memory) (start : Addr) (bytes : List Byte) : Memory :=
  ((m.writeBytes start bytes).write Config.resetVectorLow (lowByte start)).write
    Config.resetVectorHigh (highByte start)

/-- Every listed address is at least `lo` and below 65536, and they rise strictly. -/
def risingFrom (lo : Nat) : Memory → Bool
  | [] => true
  | (k, _) :: m => decide (lo ≤ k) && decide (k < Config.memSize) && risingFrom (k + 1) m

/-- The canonical form: addresses strictly rising, all of them addresses of the space. A listed cell is one that has
been written; an unlisted address has no byte of its own (notes/assumptions/2.md). -/
def wf (m : Memory) : Bool := risingFrom 0 m

end Memory

end Sys2Proof.Machine
end

