-- ==== Sys2Proof/Machine/State.lean ====
section
/-! DEFINITION. The state of the machine: the six registers of R10 and the memory of R30, and beside them, as the
model's own fields, the outputs of the last step (R76, R132), which no instruction reads. -/

namespace Sys2Proof.Machine

/-- How a step ends (R76). -/
inductive StepOutcome where
  /-- `Continue(n)`: the instruction completed and reports the cycle cost `n`. -/
  | continued (cost : Nat)
  /-- `Halt`: the opcode was BRK; the run loop stops. It is an outcome, not a state: the machine can go on (R140). -/
  | halt
  deriving DecidableEq, Repr

structure State where
  /-- The accumulator (R11). -/
  a : Byte
  /-- The index register `x` (R12). -/
  x : Byte
  /-- The register `y`, which no instruction reads (R13). -/
  y : Byte
  /-- The stack pointer, an offset into page `0x0100`; it points at the next free cell (R14). -/
  sp : Byte
  /-- The program counter (R15). -/
  pc : Addr
  /-- Carry bit 0, Zero bit 1, Negative bit 7, bits 2 to 6 plain storage (R16). -/
  status : Byte
  /-- The memory (R30). -/
  mem : Memory
  /-- MODEL'S OWN: the outcome of the last step, none where no step has run since the reset (R76;
  notes/assumptions/4.md). -/
  outcome : Option StepOutcome
  /-- MODEL'S OWN: the opcode byte of the UnknownOpcode report the last step emitted, if it emitted one (R132;
  notes/assumptions/4.md). -/
  report : Option Byte
  deriving DecidableEq, Repr

/-- Why the machine stops with a fault. No step does (R79, R130). -/
inductive Fault where
  /-- The store's OutOfBounds error (R131): raised by the host's memory read and write (`hostRead`, `hostWrite`) at
  an address of 65536 or more, and by nothing else. As the spec says; safe. -/
  | outOfBounds (addr : Nat)
  deriving DecidableEq, Repr

/-- Why an operation is turned away. No step is. -/
inductive Refusal where
  /-- An instruction without a meaning: raised by no arm of `exec`, since every instruction has its meaning. Safe. -/
  | notModelled (mnemonic : String)
  /-- Raised by the host's load (`hostLoad`) where the image runs past `0xFFFF`, which the source does not define
  (R46, D15; notes/assumptions/8.md). Safe. -/
  | loadPastEnd (start : Nat) (length : Nat)
  /-- Raised by a host's command, memory read or inspection (`Session.command`, `Session.read`, `Session.inspect`) while
  a run is in progress: the host has no such move (R144, D11, U18; notes/assumptions/9.md). Safe. -/
  | runInProgress
  deriving DecidableEq, Repr

/-- What an operation of the machine answers. -/
abbrev Result := Host.Outcome State Fault Refusal

/-- The machine right after reset with nothing loaded (R24, R150): `pc` is the word of the reset vector, which is
MEM_INIT's here (R154), and no byte of memory is listed (notes/assumptions/6.md). -/
def State.reset : State where
  a := 0x00#8
  x := 0x00#8
  y := 0x00#8
  sp := Config.resetSp
  pc := Memory.readWord [] Config.resetVectorLow Config.resetVectorHigh
  status := Config.resetStatus
  mem := []
  outcome := none
  report := none

end Sys2Proof.Machine
end

