-- ==== Sys2Proof/Machine/Ops.lean ====
section
/-! DEFINITION. The named operations over registers and memory from which every meaning is built: the writes of one
register, the memory transactions, FetchByte, FetchWord, Push, Pop and SetZN (R71 to R75), the outputs of a step
(R76, R132) and the reset operation (R150). The hardware takes no exceptions and returns from none (R130, R135,
R136), so there is no operation for either. -/

namespace Sys2Proof.Machine

/-! ### Writing one register (R6) -/

def State.setA (s : State) (v : Byte) : State := { s with a := v }
def State.setX (s : State) (v : Byte) : State := { s with x := v }
def State.setY (s : State) (v : Byte) : State := { s with y := v }
def State.setSp (s : State) (v : Byte) : State := { s with sp := v }
def State.setPc (s : State) (v : Addr) : State := { s with pc := v }
def State.setStatus (s : State) (v : Byte) : State := { s with status := v }
def State.setMem (s : State) (m : Memory) : State := { s with mem := m }

/-- The outputs of a step: its outcome and its report (R76, R132). -/
def State.setOutput (s : State) (o : Option StepOutcome) (r : Option Byte) : State :=
  { s with outcome := o, report := r }

/-! ### Memory transactions (R31) -/

/-- `MemRead(addr, 1)`. -/
def State.memRead (s : State) (a : Addr) : Byte := s.mem.read a

/-- `MemWrite(addr, 1, v)`. -/
def State.memWrite (s : State) (a : Addr) (v : Byte) : State := s.setMem (s.mem.write a v)

/-! ### The instruction fetch unit -/

/-- `FetchByte()` (R71): the byte at `pc`, and `pc` advanced by one modulo 65536. -/
def fetchByte (s : State) : Byte × State := (s.memRead s.pc, s.setPc (s.pc + 1#16))

/-- `FetchWord()` (R72): two FetchBytes, the low byte first. -/
def fetchWord (s : State) : Addr × State :=
  let lo := fetchByte s
  let hi := fetchByte lo.2
  (makeWord hi.1 lo.1, hi.2)

/-! ### The stack unit -/

/-- `Push(v)` (R73): the write at `0x0100 + sp`, then `sp` decremented modulo 256. -/
def push (v : Byte) (s : State) : State :=
  (s.memWrite (stackAddr s.sp) v).setSp (s.sp - 1#8)

/-- `Pop()` (R74): `sp` incremented modulo 256, then the read at `0x0100 + sp`. -/
def pop (s : State) : Byte × State :=
  let s1 := s.setSp (s.sp + 1#8)
  (s1.memRead (stackAddr s1.sp), s1)

/-! ### The flag unit -/

/-- `SetZN(v)` (R75). -/
def State.setZN (s : State) (v : Byte) : State := s.setStatus (Machine.setZN s.status v)

/-! ### The outputs of a step -/

/-- `outcome <- Continue(CYCLES(op))`, and no report (R76). -/
def State.continued (s : State) (op : Byte) : State :=
  s.setOutput (some (.continued (Config.cycles op).val)) none

/-- `outcome <- Halt`, and no report (R76). -/
def State.halted (s : State) : State := s.setOutput (some .halt) none

/-- `report UnknownOpcode(op)` and `outcome <- Continue(2)` (R121, R132). -/
def State.reported (s : State) (op : Byte) : State :=
  s.setOutput (some (.continued Config.defaultCycles)) (some op)

/-- `Unknown(opcode)` (R121): the report, the default cost, and nothing else. -/
def unknownOpcode (op : Byte) (s : State) : Result := .next (s.reported op)

/-! ### The reset operation -/

/-- `Reset()` (R150): the six registers from the vector and the constants; memory is left alone (R152).
No step has run since, so there is no output (notes/assumptions/4.md). -/
def resetCore (s : State) : State where
  a := 0x00#8
  x := 0x00#8
  y := 0x00#8
  sp := Config.resetSp
  pc := s.mem.readWord Config.resetVectorLow Config.resetVectorHigh
  status := Config.resetStatus
  mem := s.mem
  outcome := none
  report := none

end Sys2Proof.Machine
end

