-- ==== Sys2Proof/Machine/Arithmetic.lean ====
section
/-! DEFINITION. The arithmetic instructions ADC #, SBC # (44_arithmetic.md): the exact integer first, narrowed at the
end. -/

namespace Sys2Proof.Machine

/-- ADC # (R105). -/
def execAdc (imm : Byte) (s : State) : Result :=
  let r := adcSum s.a imm (carryIn s.status)
  let a := BitVec.ofNat 8 r
  .next ((((s.setStatus (setCarry s.status (decide (r > 255)))).setA a).setZN a).continued 0x69#8)

/-- SBC # (R106): the Carry flag is NOT written. -/
def execSbc (imm : Byte) (s : State) : Result :=
  let r := sbcDifference s.a imm (carryIn s.status)
  let a := BitVec.ofInt 8 r
  .next (((s.setA a).setZN a).continued 0xE9#8)

end Sys2Proof.Machine
end

