-- ==== Sys2Proof/Machine/Halt.lean ====
section
/-! DEFINITION. BRK (47_halt_and_unknown.md). -/

namespace Sys2Proof.Machine

/-- BRK (R120): the outcome is Halt, and nothing else happens: nothing is pushed, no vector is read, no flag changes. -/
def execBrk (s : State) : Result := .next s.halted

end Sys2Proof.Machine
end

