-- ==== Sys2Proof/Machine/Increment.lean ====
section
/-! DEFINITION. The increment instruction INX (43_increment.md). -/

namespace Sys2Proof.Machine

/-- INX (R100): Carry is not affected, also where `x` wraps. -/
def execInx (s : State) : Result :=
  let x := s.x + 1#8
  .next (((s.setX x).setZN x).continued 0xE8#8)

end Sys2Proof.Machine
end

