-- ==== Sys2Proof/Machine/Load.lean ====
section
/-! DEFINITION. The load-immediate instructions LDA #, LDX #, LDY # (41_load_immediate.md). As in every meaning, the
operand bytes have been fetched and `pc` is past the instruction (R70). -/

namespace Sys2Proof.Machine

/-- LDA # (R90). -/
def execLda (imm : Byte) (s : State) : Result := .next (((s.setA imm).setZN imm).continued 0xA9#8)

/-- LDX # (R91). -/
def execLdx (imm : Byte) (s : State) : Result := .next (((s.setX imm).setZN imm).continued 0xA2#8)

/-- LDY # (R92). -/
def execLdy (imm : Byte) (s : State) : Result := .next (((s.setY imm).setZN imm).continued 0xA0#8)

end Sys2Proof.Machine
end

