-- ==== Sys2Proof/Machine/Stack.lean ====
section
/-! DEFINITION. The stack instructions PHA, PLA (45_stack.md). -/

namespace Sys2Proof.Machine

/-- PHA (R110). -/
def execPha (s : State) : Result := .next ((push s.a s).continued 0x48#8)

/-- PLA (R111): it does set Z and N (C2). -/
def execPla (s : State) : Result :=
  let p := pop s
  .next (((p.2.setA p.1).setZN p.1).continued 0x68#8)

end Sys2Proof.Machine
end

