-- ==== Sys2Proof/Machine/Store.lean ====
section
/-! DEFINITION. The store instructions STA zp, STA abs (42_store.md). -/

namespace Sys2Proof.Machine

/-- STA zp (R95). -/
def execStaZp (zp : Byte) (s : State) : Result :=
  .next ((s.memWrite (zeroPageAddr zp) s.a).continued 0x85#8)

/-- STA abs (R96). -/
def execStaAbs (addr : Addr) (s : State) : Result :=
  .next ((s.memWrite (absoluteAddr addr) s.a).continued 0x8D#8)

end Sys2Proof.Machine
end

