-- ==== Sys2Proof/Machine/Subroutine.lean ====
section
/-! DEFINITION. The control transfers JSR, RTS (46_subroutine.md). -/

namespace Sys2Proof.Machine

/-- JSR (R115): both operand bytes have been fetched, so `pc - 1` is the address of the last byte of the JSR; its high
byte is pushed first. -/
def execJsr (target : Addr) (s : State) : Result :=
  let ret := s.pc - 1#16
  let s1 := push (highByte ret) s
  let s2 := push (lowByte ret) s1
  .next ((s2.setPc target).continued 0x20#8)

/-- RTS (R116): the low byte is popped first. -/
def execRts (s : State) : Result :=
  let lo := pop s
  let hi := pop lo.2
  .next ((hi.2.setPc (makeWord hi.1 lo.1 + 1#16)).continued 0x60#8)

end Sys2Proof.Machine
end

