-- ==== Sys2Proof/Machine/Unknown.lean ====
section
/-! DEFINITION. The 243 unknown opcodes (R121): each is one line over the shared operation `unknownOpcode`, with a
definition of its own, so that one of them can be mended without the others. -/

namespace Sys2Proof.Machine

/-! R54: the unknown bytes `0x01` to `0x1F` -/

def execUnknown01 (s : State) : Result := unknownOpcode 0x01#8 s
def execUnknown02 (s : State) : Result := unknownOpcode 0x02#8 s
def execUnknown03 (s : State) : Result := unknownOpcode 0x03#8 s
def execUnknown04 (s : State) : Result := unknownOpcode 0x04#8 s
def execUnknown05 (s : State) : Result := unknownOpcode 0x05#8 s
def execUnknown06 (s : State) : Result := unknownOpcode 0x06#8 s
def execUnknown07 (s : State) : Result := unknownOpcode 0x07#8 s
def execUnknown08 (s : State) : Result := unknownOpcode 0x08#8 s
def execUnknown09 (s : State) : Result := unknownOpcode 0x09#8 s
def execUnknown0A (s : State) : Result := unknownOpcode 0x0A#8 s
def execUnknown0B (s : State) : Result := unknownOpcode 0x0B#8 s
def execUnknown0C (s : State) : Result := unknownOpcode 0x0C#8 s
def execUnknown0D (s : State) : Result := unknownOpcode 0x0D#8 s
def execUnknown0E (s : State) : Result := unknownOpcode 0x0E#8 s
def execUnknown0F (s : State) : Result := unknownOpcode 0x0F#8 s
def execUnknown10 (s : State) : Result := unknownOpcode 0x10#8 s
def execUnknown11 (s : State) : Result := unknownOpcode 0x11#8 s
def execUnknown12 (s : State) : Result := unknownOpcode 0x12#8 s
def execUnknown13 (s : State) : Result := unknownOpcode 0x13#8 s
def execUnknown14 (s : State) : Result := unknownOpcode 0x14#8 s
def execUnknown15 (s : State) : Result := unknownOpcode 0x15#8 s
def execUnknown16 (s : State) : Result := unknownOpcode 0x16#8 s
def execUnknown17 (s : State) : Result := unknownOpcode 0x17#8 s
def execUnknown18 (s : State) : Result := unknownOpcode 0x18#8 s
def execUnknown19 (s : State) : Result := unknownOpcode 0x19#8 s
def execUnknown1A (s : State) : Result := unknownOpcode 0x1A#8 s
def execUnknown1B (s : State) : Result := unknownOpcode 0x1B#8 s
def execUnknown1C (s : State) : Result := unknownOpcode 0x1C#8 s
def execUnknown1D (s : State) : Result := unknownOpcode 0x1D#8 s
def execUnknown1E (s : State) : Result := unknownOpcode 0x1E#8 s
def execUnknown1F (s : State) : Result := unknownOpcode 0x1F#8 s

/-! R54: the unknown bytes `0x21` to `0x47` -/

def execUnknown21 (s : State) : Result := unknownOpcode 0x21#8 s
def execUnknown22 (s : State) : Result := unknownOpcode 0x22#8 s
def execUnknown23 (s : State) : Result := unknownOpcode 0x23#8 s
def execUnknown24 (s : State) : Result := unknownOpcode 0x24#8 s
def execUnknown25 (s : State) : Result := unknownOpcode 0x25#8 s
def execUnknown26 (s : State) : Result := unknownOpcode 0x26#8 s
def execUnknown27 (s : State) : Result := unknownOpcode 0x27#8 s
def execUnknown28 (s : State) : Result := unknownOpcode 0x28#8 s
def execUnknown29 (s : State) : Result := unknownOpcode 0x29#8 s
def execUnknown2A (s : State) : Result := unknownOpcode 0x2A#8 s
def execUnknown2B (s : State) : Result := unknownOpcode 0x2B#8 s
def execUnknown2C (s : State) : Result := unknownOpcode 0x2C#8 s
def execUnknown2D (s : State) : Result := unknownOpcode 0x2D#8 s
def execUnknown2E (s : State) : Result := unknownOpcode 0x2E#8 s
def execUnknown2F (s : State) : Result := unknownOpcode 0x2F#8 s
def execUnknown30 (s : State) : Result := unknownOpcode 0x30#8 s
def execUnknown31 (s : State) : Result := unknownOpcode 0x31#8 s
def execUnknown32 (s : State) : Result := unknownOpcode 0x32#8 s
def execUnknown33 (s : State) : Result := unknownOpcode 0x33#8 s
def execUnknown34 (s : State) : Result := unknownOpcode 0x34#8 s
def execUnknown35 (s : State) : Result := unknownOpcode 0x35#8 s
def execUnknown36 (s : State) : Result := unknownOpcode 0x36#8 s
def execUnknown37 (s : State) : Result := unknownOpcode 0x37#8 s
def execUnknown38 (s : State) : Result := unknownOpcode 0x38#8 s
def execUnknown39 (s : State) : Result := unknownOpcode 0x39#8 s
def execUnknown3A (s : State) : Result := unknownOpcode 0x3A#8 s
def execUnknown3B (s : State) : Result := unknownOpcode 0x3B#8 s
def execUnknown3C (s : State) : Result := unknownOpcode 0x3C#8 s
def execUnknown3D (s : State) : Result := unknownOpcode 0x3D#8 s
def execUnknown3E (s : State) : Result := unknownOpcode 0x3E#8 s
def execUnknown3F (s : State) : Result := unknownOpcode 0x3F#8 s
def execUnknown40 (s : State) : Result := unknownOpcode 0x40#8 s
def execUnknown41 (s : State) : Result := unknownOpcode 0x41#8 s
def execUnknown42 (s : State) : Result := unknownOpcode 0x42#8 s
def execUnknown43 (s : State) : Result := unknownOpcode 0x43#8 s
def execUnknown44 (s : State) : Result := unknownOpcode 0x44#8 s
def execUnknown45 (s : State) : Result := unknownOpcode 0x45#8 s
def execUnknown46 (s : State) : Result := unknownOpcode 0x46#8 s
def execUnknown47 (s : State) : Result := unknownOpcode 0x47#8 s

/-! R54: the unknown bytes `0x49` to `0x5F` -/

def execUnknown49 (s : State) : Result := unknownOpcode 0x49#8 s
def execUnknown4A (s : State) : Result := unknownOpcode 0x4A#8 s
def execUnknown4B (s : State) : Result := unknownOpcode 0x4B#8 s
def execUnknown4C (s : State) : Result := unknownOpcode 0x4C#8 s
def execUnknown4D (s : State) : Result := unknownOpcode 0x4D#8 s
def execUnknown4E (s : State) : Result := unknownOpcode 0x4E#8 s
def execUnknown4F (s : State) : Result := unknownOpcode 0x4F#8 s
def execUnknown50 (s : State) : Result := unknownOpcode 0x50#8 s
def execUnknown51 (s : State) : Result := unknownOpcode 0x51#8 s
def execUnknown52 (s : State) : Result := unknownOpcode 0x52#8 s
def execUnknown53 (s : State) : Result := unknownOpcode 0x53#8 s
def execUnknown54 (s : State) : Result := unknownOpcode 0x54#8 s
def execUnknown55 (s : State) : Result := unknownOpcode 0x55#8 s
def execUnknown56 (s : State) : Result := unknownOpcode 0x56#8 s
def execUnknown57 (s : State) : Result := unknownOpcode 0x57#8 s
def execUnknown58 (s : State) : Result := unknownOpcode 0x58#8 s
def execUnknown59 (s : State) : Result := unknownOpcode 0x59#8 s
def execUnknown5A (s : State) : Result := unknownOpcode 0x5A#8 s
def execUnknown5B (s : State) : Result := unknownOpcode 0x5B#8 s
def execUnknown5C (s : State) : Result := unknownOpcode 0x5C#8 s
def execUnknown5D (s : State) : Result := unknownOpcode 0x5D#8 s
def execUnknown5E (s : State) : Result := unknownOpcode 0x5E#8 s
def execUnknown5F (s : State) : Result := unknownOpcode 0x5F#8 s

/-! R54: the unknown bytes `0x61` to `0x67` -/

def execUnknown61 (s : State) : Result := unknownOpcode 0x61#8 s
def execUnknown62 (s : State) : Result := unknownOpcode 0x62#8 s
def execUnknown63 (s : State) : Result := unknownOpcode 0x63#8 s
def execUnknown64 (s : State) : Result := unknownOpcode 0x64#8 s
def execUnknown65 (s : State) : Result := unknownOpcode 0x65#8 s
def execUnknown66 (s : State) : Result := unknownOpcode 0x66#8 s
def execUnknown67 (s : State) : Result := unknownOpcode 0x67#8 s

/-! R54: the unknown bytes `0x6A` to `0x84` -/

def execUnknown6A (s : State) : Result := unknownOpcode 0x6A#8 s
def execUnknown6B (s : State) : Result := unknownOpcode 0x6B#8 s
def execUnknown6C (s : State) : Result := unknownOpcode 0x6C#8 s
def execUnknown6D (s : State) : Result := unknownOpcode 0x6D#8 s
def execUnknown6E (s : State) : Result := unknownOpcode 0x6E#8 s
def execUnknown6F (s : State) : Result := unknownOpcode 0x6F#8 s
def execUnknown70 (s : State) : Result := unknownOpcode 0x70#8 s
def execUnknown71 (s : State) : Result := unknownOpcode 0x71#8 s
def execUnknown72 (s : State) : Result := unknownOpcode 0x72#8 s
def execUnknown73 (s : State) : Result := unknownOpcode 0x73#8 s
def execUnknown74 (s : State) : Result := unknownOpcode 0x74#8 s
def execUnknown75 (s : State) : Result := unknownOpcode 0x75#8 s
def execUnknown76 (s : State) : Result := unknownOpcode 0x76#8 s
def execUnknown77 (s : State) : Result := unknownOpcode 0x77#8 s
def execUnknown78 (s : State) : Result := unknownOpcode 0x78#8 s
def execUnknown79 (s : State) : Result := unknownOpcode 0x79#8 s
def execUnknown7A (s : State) : Result := unknownOpcode 0x7A#8 s
def execUnknown7B (s : State) : Result := unknownOpcode 0x7B#8 s
def execUnknown7C (s : State) : Result := unknownOpcode 0x7C#8 s
def execUnknown7D (s : State) : Result := unknownOpcode 0x7D#8 s
def execUnknown7E (s : State) : Result := unknownOpcode 0x7E#8 s
def execUnknown7F (s : State) : Result := unknownOpcode 0x7F#8 s
def execUnknown80 (s : State) : Result := unknownOpcode 0x80#8 s
def execUnknown81 (s : State) : Result := unknownOpcode 0x81#8 s
def execUnknown82 (s : State) : Result := unknownOpcode 0x82#8 s
def execUnknown83 (s : State) : Result := unknownOpcode 0x83#8 s
def execUnknown84 (s : State) : Result := unknownOpcode 0x84#8 s

/-! R54: the unknown bytes `0x86` to `0x8C` -/

def execUnknown86 (s : State) : Result := unknownOpcode 0x86#8 s
def execUnknown87 (s : State) : Result := unknownOpcode 0x87#8 s
def execUnknown88 (s : State) : Result := unknownOpcode 0x88#8 s
def execUnknown89 (s : State) : Result := unknownOpcode 0x89#8 s
def execUnknown8A (s : State) : Result := unknownOpcode 0x8A#8 s
def execUnknown8B (s : State) : Result := unknownOpcode 0x8B#8 s
def execUnknown8C (s : State) : Result := unknownOpcode 0x8C#8 s

/-! R54: the unknown bytes `0x8E` to `0x9F` -/

def execUnknown8E (s : State) : Result := unknownOpcode 0x8E#8 s
def execUnknown8F (s : State) : Result := unknownOpcode 0x8F#8 s
def execUnknown90 (s : State) : Result := unknownOpcode 0x90#8 s
def execUnknown91 (s : State) : Result := unknownOpcode 0x91#8 s
def execUnknown92 (s : State) : Result := unknownOpcode 0x92#8 s
def execUnknown93 (s : State) : Result := unknownOpcode 0x93#8 s
def execUnknown94 (s : State) : Result := unknownOpcode 0x94#8 s
def execUnknown95 (s : State) : Result := unknownOpcode 0x95#8 s
def execUnknown96 (s : State) : Result := unknownOpcode 0x96#8 s
def execUnknown97 (s : State) : Result := unknownOpcode 0x97#8 s
def execUnknown98 (s : State) : Result := unknownOpcode 0x98#8 s
def execUnknown99 (s : State) : Result := unknownOpcode 0x99#8 s
def execUnknown9A (s : State) : Result := unknownOpcode 0x9A#8 s
def execUnknown9B (s : State) : Result := unknownOpcode 0x9B#8 s
def execUnknown9C (s : State) : Result := unknownOpcode 0x9C#8 s
def execUnknown9D (s : State) : Result := unknownOpcode 0x9D#8 s
def execUnknown9E (s : State) : Result := unknownOpcode 0x9E#8 s
def execUnknown9F (s : State) : Result := unknownOpcode 0x9F#8 s

/-! R54: the unknown bytes `0xA1` to `0xA1` -/

def execUnknownA1 (s : State) : Result := unknownOpcode 0xA1#8 s

/-! R54: the unknown bytes `0xA3` to `0xA8` -/

def execUnknownA3 (s : State) : Result := unknownOpcode 0xA3#8 s
def execUnknownA4 (s : State) : Result := unknownOpcode 0xA4#8 s
def execUnknownA5 (s : State) : Result := unknownOpcode 0xA5#8 s
def execUnknownA6 (s : State) : Result := unknownOpcode 0xA6#8 s
def execUnknownA7 (s : State) : Result := unknownOpcode 0xA7#8 s
def execUnknownA8 (s : State) : Result := unknownOpcode 0xA8#8 s

/-! R54: the unknown bytes `0xAA` to `0xE7` -/

def execUnknownAA (s : State) : Result := unknownOpcode 0xAA#8 s
def execUnknownAB (s : State) : Result := unknownOpcode 0xAB#8 s
def execUnknownAC (s : State) : Result := unknownOpcode 0xAC#8 s
def execUnknownAD (s : State) : Result := unknownOpcode 0xAD#8 s
def execUnknownAE (s : State) : Result := unknownOpcode 0xAE#8 s
def execUnknownAF (s : State) : Result := unknownOpcode 0xAF#8 s
def execUnknownB0 (s : State) : Result := unknownOpcode 0xB0#8 s
def execUnknownB1 (s : State) : Result := unknownOpcode 0xB1#8 s
def execUnknownB2 (s : State) : Result := unknownOpcode 0xB2#8 s
def execUnknownB3 (s : State) : Result := unknownOpcode 0xB3#8 s
def execUnknownB4 (s : State) : Result := unknownOpcode 0xB4#8 s
def execUnknownB5 (s : State) : Result := unknownOpcode 0xB5#8 s
def execUnknownB6 (s : State) : Result := unknownOpcode 0xB6#8 s
def execUnknownB7 (s : State) : Result := unknownOpcode 0xB7#8 s
def execUnknownB8 (s : State) : Result := unknownOpcode 0xB8#8 s
def execUnknownB9 (s : State) : Result := unknownOpcode 0xB9#8 s
def execUnknownBA (s : State) : Result := unknownOpcode 0xBA#8 s
def execUnknownBB (s : State) : Result := unknownOpcode 0xBB#8 s
def execUnknownBC (s : State) : Result := unknownOpcode 0xBC#8 s
def execUnknownBD (s : State) : Result := unknownOpcode 0xBD#8 s
def execUnknownBE (s : State) : Result := unknownOpcode 0xBE#8 s
def execUnknownBF (s : State) : Result := unknownOpcode 0xBF#8 s
def execUnknownC0 (s : State) : Result := unknownOpcode 0xC0#8 s
def execUnknownC1 (s : State) : Result := unknownOpcode 0xC1#8 s
def execUnknownC2 (s : State) : Result := unknownOpcode 0xC2#8 s
def execUnknownC3 (s : State) : Result := unknownOpcode 0xC3#8 s
def execUnknownC4 (s : State) : Result := unknownOpcode 0xC4#8 s
def execUnknownC5 (s : State) : Result := unknownOpcode 0xC5#8 s
def execUnknownC6 (s : State) : Result := unknownOpcode 0xC6#8 s
def execUnknownC7 (s : State) : Result := unknownOpcode 0xC7#8 s
def execUnknownC8 (s : State) : Result := unknownOpcode 0xC8#8 s
def execUnknownC9 (s : State) : Result := unknownOpcode 0xC9#8 s
def execUnknownCA (s : State) : Result := unknownOpcode 0xCA#8 s
def execUnknownCB (s : State) : Result := unknownOpcode 0xCB#8 s
def execUnknownCC (s : State) : Result := unknownOpcode 0xCC#8 s
def execUnknownCD (s : State) : Result := unknownOpcode 0xCD#8 s
def execUnknownCE (s : State) : Result := unknownOpcode 0xCE#8 s
def execUnknownCF (s : State) : Result := unknownOpcode 0xCF#8 s
def execUnknownD0 (s : State) : Result := unknownOpcode 0xD0#8 s
def execUnknownD1 (s : State) : Result := unknownOpcode 0xD1#8 s
def execUnknownD2 (s : State) : Result := unknownOpcode 0xD2#8 s
def execUnknownD3 (s : State) : Result := unknownOpcode 0xD3#8 s
def execUnknownD4 (s : State) : Result := unknownOpcode 0xD4#8 s
def execUnknownD5 (s : State) : Result := unknownOpcode 0xD5#8 s
def execUnknownD6 (s : State) : Result := unknownOpcode 0xD6#8 s
def execUnknownD7 (s : State) : Result := unknownOpcode 0xD7#8 s
def execUnknownD8 (s : State) : Result := unknownOpcode 0xD8#8 s
def execUnknownD9 (s : State) : Result := unknownOpcode 0xD9#8 s
def execUnknownDA (s : State) : Result := unknownOpcode 0xDA#8 s
def execUnknownDB (s : State) : Result := unknownOpcode 0xDB#8 s
def execUnknownDC (s : State) : Result := unknownOpcode 0xDC#8 s
def execUnknownDD (s : State) : Result := unknownOpcode 0xDD#8 s
def execUnknownDE (s : State) : Result := unknownOpcode 0xDE#8 s
def execUnknownDF (s : State) : Result := unknownOpcode 0xDF#8 s
def execUnknownE0 (s : State) : Result := unknownOpcode 0xE0#8 s
def execUnknownE1 (s : State) : Result := unknownOpcode 0xE1#8 s
def execUnknownE2 (s : State) : Result := unknownOpcode 0xE2#8 s
def execUnknownE3 (s : State) : Result := unknownOpcode 0xE3#8 s
def execUnknownE4 (s : State) : Result := unknownOpcode 0xE4#8 s
def execUnknownE5 (s : State) : Result := unknownOpcode 0xE5#8 s
def execUnknownE6 (s : State) : Result := unknownOpcode 0xE6#8 s
def execUnknownE7 (s : State) : Result := unknownOpcode 0xE7#8 s

/-! R54: the unknown bytes `0xEA` to `0xFF` -/

def execUnknownEA (s : State) : Result := unknownOpcode 0xEA#8 s
def execUnknownEB (s : State) : Result := unknownOpcode 0xEB#8 s
def execUnknownEC (s : State) : Result := unknownOpcode 0xEC#8 s
def execUnknownED (s : State) : Result := unknownOpcode 0xED#8 s
def execUnknownEE (s : State) : Result := unknownOpcode 0xEE#8 s
def execUnknownEF (s : State) : Result := unknownOpcode 0xEF#8 s
def execUnknownF0 (s : State) : Result := unknownOpcode 0xF0#8 s
def execUnknownF1 (s : State) : Result := unknownOpcode 0xF1#8 s
def execUnknownF2 (s : State) : Result := unknownOpcode 0xF2#8 s
def execUnknownF3 (s : State) : Result := unknownOpcode 0xF3#8 s
def execUnknownF4 (s : State) : Result := unknownOpcode 0xF4#8 s
def execUnknownF5 (s : State) : Result := unknownOpcode 0xF5#8 s
def execUnknownF6 (s : State) : Result := unknownOpcode 0xF6#8 s
def execUnknownF7 (s : State) : Result := unknownOpcode 0xF7#8 s
def execUnknownF8 (s : State) : Result := unknownOpcode 0xF8#8 s
def execUnknownF9 (s : State) : Result := unknownOpcode 0xF9#8 s
def execUnknownFA (s : State) : Result := unknownOpcode 0xFA#8 s
def execUnknownFB (s : State) : Result := unknownOpcode 0xFB#8 s
def execUnknownFC (s : State) : Result := unknownOpcode 0xFC#8 s
def execUnknownFD (s : State) : Result := unknownOpcode 0xFD#8 s
def execUnknownFE (s : State) : Result := unknownOpcode 0xFE#8 s
def execUnknownFF (s : State) : Result := unknownOpcode 0xFF#8 s

end Sys2Proof.Machine
end

