-- ==== Sys2Proof/Machine/Dispatch.lean ====
section
/-! DEFINITION. The dispatcher (R70, R80): one arm per constructor of Instr, each one call of its meaning. -/

namespace Sys2Proof.Machine

def exec (i : Instr) (s : State) : Host.Outcome State Fault Refusal :=
  match i with
  | .lda imm => Sys2Proof.Machine.execLda imm s
  | .ldx imm => Sys2Proof.Machine.execLdx imm s
  | .ldy imm => Sys2Proof.Machine.execLdy imm s
  | .staZp zp => Sys2Proof.Machine.execStaZp zp s
  | .staAbs addr => Sys2Proof.Machine.execStaAbs addr s
  | .inx => Sys2Proof.Machine.execInx s
  | .adc imm => Sys2Proof.Machine.execAdc imm s
  | .sbc imm => Sys2Proof.Machine.execSbc imm s
  | .pha => Sys2Proof.Machine.execPha s
  | .pla => Sys2Proof.Machine.execPla s
  | .jsr target => Sys2Proof.Machine.execJsr target s
  | .rts => Sys2Proof.Machine.execRts s
  | .brk => Sys2Proof.Machine.execBrk s
  | .unknown01 => Sys2Proof.Machine.execUnknown01 s
  | .unknown02 => Sys2Proof.Machine.execUnknown02 s
  | .unknown03 => Sys2Proof.Machine.execUnknown03 s
  | .unknown04 => Sys2Proof.Machine.execUnknown04 s
  | .unknown05 => Sys2Proof.Machine.execUnknown05 s
  | .unknown06 => Sys2Proof.Machine.execUnknown06 s
  | .unknown07 => Sys2Proof.Machine.execUnknown07 s
  | .unknown08 => Sys2Proof.Machine.execUnknown08 s
  | .unknown09 => Sys2Proof.Machine.execUnknown09 s
  | .unknown0A => Sys2Proof.Machine.execUnknown0A s
  | .unknown0B => Sys2Proof.Machine.execUnknown0B s
  | .unknown0C => Sys2Proof.Machine.execUnknown0C s
  | .unknown0D => Sys2Proof.Machine.execUnknown0D s
  | .unknown0E => Sys2Proof.Machine.execUnknown0E s
  | .unknown0F => Sys2Proof.Machine.execUnknown0F s
  | .unknown10 => Sys2Proof.Machine.execUnknown10 s
  | .unknown11 => Sys2Proof.Machine.execUnknown11 s
  | .unknown12 => Sys2Proof.Machine.execUnknown12 s
  | .unknown13 => Sys2Proof.Machine.execUnknown13 s
  | .unknown14 => Sys2Proof.Machine.execUnknown14 s
  | .unknown15 => Sys2Proof.Machine.execUnknown15 s
  | .unknown16 => Sys2Proof.Machine.execUnknown16 s
  | .unknown17 => Sys2Proof.Machine.execUnknown17 s
  | .unknown18 => Sys2Proof.Machine.execUnknown18 s
  | .unknown19 => Sys2Proof.Machine.execUnknown19 s
  | .unknown1A => Sys2Proof.Machine.execUnknown1A s
  | .unknown1B => Sys2Proof.Machine.execUnknown1B s
  | .unknown1C => Sys2Proof.Machine.execUnknown1C s
  | .unknown1D => Sys2Proof.Machine.execUnknown1D s
  | .unknown1E => Sys2Proof.Machine.execUnknown1E s
  | .unknown1F => Sys2Proof.Machine.execUnknown1F s
  | .unknown21 => Sys2Proof.Machine.execUnknown21 s
  | .unknown22 => Sys2Proof.Machine.execUnknown22 s
  | .unknown23 => Sys2Proof.Machine.execUnknown23 s
  | .unknown24 => Sys2Proof.Machine.execUnknown24 s
  | .unknown25 => Sys2Proof.Machine.execUnknown25 s
  | .unknown26 => Sys2Proof.Machine.execUnknown26 s
  | .unknown27 => Sys2Proof.Machine.execUnknown27 s
  | .unknown28 => Sys2Proof.Machine.execUnknown28 s
  | .unknown29 => Sys2Proof.Machine.execUnknown29 s
  | .unknown2A => Sys2Proof.Machine.execUnknown2A s
  | .unknown2B => Sys2Proof.Machine.execUnknown2B s
  | .unknown2C => Sys2Proof.Machine.execUnknown2C s
  | .unknown2D => Sys2Proof.Machine.execUnknown2D s
  | .unknown2E => Sys2Proof.Machine.execUnknown2E s
  | .unknown2F => Sys2Proof.Machine.execUnknown2F s
  | .unknown30 => Sys2Proof.Machine.execUnknown30 s
  | .unknown31 => Sys2Proof.Machine.execUnknown31 s
  | .unknown32 => Sys2Proof.Machine.execUnknown32 s
  | .unknown33 => Sys2Proof.Machine.execUnknown33 s
  | .unknown34 => Sys2Proof.Machine.execUnknown34 s
  | .unknown35 => Sys2Proof.Machine.execUnknown35 s
  | .unknown36 => Sys2Proof.Machine.execUnknown36 s
  | .unknown37 => Sys2Proof.Machine.execUnknown37 s
  | .unknown38 => Sys2Proof.Machine.execUnknown38 s
  | .unknown39 => Sys2Proof.Machine.execUnknown39 s
  | .unknown3A => Sys2Proof.Machine.execUnknown3A s
  | .unknown3B => Sys2Proof.Machine.execUnknown3B s
  | .unknown3C => Sys2Proof.Machine.execUnknown3C s
  | .unknown3D => Sys2Proof.Machine.execUnknown3D s
  | .unknown3E => Sys2Proof.Machine.execUnknown3E s
  | .unknown3F => Sys2Proof.Machine.execUnknown3F s
  | .unknown40 => Sys2Proof.Machine.execUnknown40 s
  | .unknown41 => Sys2Proof.Machine.execUnknown41 s
  | .unknown42 => Sys2Proof.Machine.execUnknown42 s
  | .unknown43 => Sys2Proof.Machine.execUnknown43 s
  | .unknown44 => Sys2Proof.Machine.execUnknown44 s
  | .unknown45 => Sys2Proof.Machine.execUnknown45 s
  | .unknown46 => Sys2Proof.Machine.execUnknown46 s
  | .unknown47 => Sys2Proof.Machine.execUnknown47 s
  | .unknown49 => Sys2Proof.Machine.execUnknown49 s
  | .unknown4A => Sys2Proof.Machine.execUnknown4A s
  | .unknown4B => Sys2Proof.Machine.execUnknown4B s
  | .unknown4C => Sys2Proof.Machine.execUnknown4C s
  | .unknown4D => Sys2Proof.Machine.execUnknown4D s
  | .unknown4E => Sys2Proof.Machine.execUnknown4E s
  | .unknown4F => Sys2Proof.Machine.execUnknown4F s
  | .unknown50 => Sys2Proof.Machine.execUnknown50 s
  | .unknown51 => Sys2Proof.Machine.execUnknown51 s
  | .unknown52 => Sys2Proof.Machine.execUnknown52 s
  | .unknown53 => Sys2Proof.Machine.execUnknown53 s
  | .unknown54 => Sys2Proof.Machine.execUnknown54 s
  | .unknown55 => Sys2Proof.Machine.execUnknown55 s
  | .unknown56 => Sys2Proof.Machine.execUnknown56 s
  | .unknown57 => Sys2Proof.Machine.execUnknown57 s
  | .unknown58 => Sys2Proof.Machine.execUnknown58 s
  | .unknown59 => Sys2Proof.Machine.execUnknown59 s
  | .unknown5A => Sys2Proof.Machine.execUnknown5A s
  | .unknown5B => Sys2Proof.Machine.execUnknown5B s
  | .unknown5C => Sys2Proof.Machine.execUnknown5C s
  | .unknown5D => Sys2Proof.Machine.execUnknown5D s
  | .unknown5E => Sys2Proof.Machine.execUnknown5E s
  | .unknown5F => Sys2Proof.Machine.execUnknown5F s
  | .unknown61 => Sys2Proof.Machine.execUnknown61 s
  | .unknown62 => Sys2Proof.Machine.execUnknown62 s
  | .unknown63 => Sys2Proof.Machine.execUnknown63 s
  | .unknown64 => Sys2Proof.Machine.execUnknown64 s
  | .unknown65 => Sys2Proof.Machine.execUnknown65 s
  | .unknown66 => Sys2Proof.Machine.execUnknown66 s
  | .unknown67 => Sys2Proof.Machine.execUnknown67 s
  | .unknown6A => Sys2Proof.Machine.execUnknown6A s
  | .unknown6B => Sys2Proof.Machine.execUnknown6B s
  | .unknown6C => Sys2Proof.Machine.execUnknown6C s
  | .unknown6D => Sys2Proof.Machine.execUnknown6D s
  | .unknown6E => Sys2Proof.Machine.execUnknown6E s
  | .unknown6F => Sys2Proof.Machine.execUnknown6F s
  | .unknown70 => Sys2Proof.Machine.execUnknown70 s
  | .unknown71 => Sys2Proof.Machine.execUnknown71 s
  | .unknown72 => Sys2Proof.Machine.execUnknown72 s
  | .unknown73 => Sys2Proof.Machine.execUnknown73 s
  | .unknown74 => Sys2Proof.Machine.execUnknown74 s
  | .unknown75 => Sys2Proof.Machine.execUnknown75 s
  | .unknown76 => Sys2Proof.Machine.execUnknown76 s
  | .unknown77 => Sys2Proof.Machine.execUnknown77 s
  | .unknown78 => Sys2Proof.Machine.execUnknown78 s
  | .unknown79 => Sys2Proof.Machine.execUnknown79 s
  | .unknown7A => Sys2Proof.Machine.execUnknown7A s
  | .unknown7B => Sys2Proof.Machine.execUnknown7B s
  | .unknown7C => Sys2Proof.Machine.execUnknown7C s
  | .unknown7D => Sys2Proof.Machine.execUnknown7D s
  | .unknown7E => Sys2Proof.Machine.execUnknown7E s
  | .unknown7F => Sys2Proof.Machine.execUnknown7F s
  | .unknown80 => Sys2Proof.Machine.execUnknown80 s
  | .unknown81 => Sys2Proof.Machine.execUnknown81 s
  | .unknown82 => Sys2Proof.Machine.execUnknown82 s
  | .unknown83 => Sys2Proof.Machine.execUnknown83 s
  | .unknown84 => Sys2Proof.Machine.execUnknown84 s
  | .unknown86 => Sys2Proof.Machine.execUnknown86 s
  | .unknown87 => Sys2Proof.Machine.execUnknown87 s
  | .unknown88 => Sys2Proof.Machine.execUnknown88 s
  | .unknown89 => Sys2Proof.Machine.execUnknown89 s
  | .unknown8A => Sys2Proof.Machine.execUnknown8A s
  | .unknown8B => Sys2Proof.Machine.execUnknown8B s
  | .unknown8C => Sys2Proof.Machine.execUnknown8C s
  | .unknown8E => Sys2Proof.Machine.execUnknown8E s
  | .unknown8F => Sys2Proof.Machine.execUnknown8F s
  | .unknown90 => Sys2Proof.Machine.execUnknown90 s
  | .unknown91 => Sys2Proof.Machine.execUnknown91 s
  | .unknown92 => Sys2Proof.Machine.execUnknown92 s
  | .unknown93 => Sys2Proof.Machine.execUnknown93 s
  | .unknown94 => Sys2Proof.Machine.execUnknown94 s
  | .unknown95 => Sys2Proof.Machine.execUnknown95 s
  | .unknown96 => Sys2Proof.Machine.execUnknown96 s
  | .unknown97 => Sys2Proof.Machine.execUnknown97 s
  | .unknown98 => Sys2Proof.Machine.execUnknown98 s
  | .unknown99 => Sys2Proof.Machine.execUnknown99 s
  | .unknown9A => Sys2Proof.Machine.execUnknown9A s
  | .unknown9B => Sys2Proof.Machine.execUnknown9B s
  | .unknown9C => Sys2Proof.Machine.execUnknown9C s
  | .unknown9D => Sys2Proof.Machine.execUnknown9D s
  | .unknown9E => Sys2Proof.Machine.execUnknown9E s
  | .unknown9F => Sys2Proof.Machine.execUnknown9F s
  | .unknownA1 => Sys2Proof.Machine.execUnknownA1 s
  | .unknownA3 => Sys2Proof.Machine.execUnknownA3 s
  | .unknownA4 => Sys2Proof.Machine.execUnknownA4 s
  | .unknownA5 => Sys2Proof.Machine.execUnknownA5 s
  | .unknownA6 => Sys2Proof.Machine.execUnknownA6 s
  | .unknownA7 => Sys2Proof.Machine.execUnknownA7 s
  | .unknownA8 => Sys2Proof.Machine.execUnknownA8 s
  | .unknownAA => Sys2Proof.Machine.execUnknownAA s
  | .unknownAB => Sys2Proof.Machine.execUnknownAB s
  | .unknownAC => Sys2Proof.Machine.execUnknownAC s
  | .unknownAD => Sys2Proof.Machine.execUnknownAD s
  | .unknownAE => Sys2Proof.Machine.execUnknownAE s
  | .unknownAF => Sys2Proof.Machine.execUnknownAF s
  | .unknownB0 => Sys2Proof.Machine.execUnknownB0 s
  | .unknownB1 => Sys2Proof.Machine.execUnknownB1 s
  | .unknownB2 => Sys2Proof.Machine.execUnknownB2 s
  | .unknownB3 => Sys2Proof.Machine.execUnknownB3 s
  | .unknownB4 => Sys2Proof.Machine.execUnknownB4 s
  | .unknownB5 => Sys2Proof.Machine.execUnknownB5 s
  | .unknownB6 => Sys2Proof.Machine.execUnknownB6 s
  | .unknownB7 => Sys2Proof.Machine.execUnknownB7 s
  | .unknownB8 => Sys2Proof.Machine.execUnknownB8 s
  | .unknownB9 => Sys2Proof.Machine.execUnknownB9 s
  | .unknownBA => Sys2Proof.Machine.execUnknownBA s
  | .unknownBB => Sys2Proof.Machine.execUnknownBB s
  | .unknownBC => Sys2Proof.Machine.execUnknownBC s
  | .unknownBD => Sys2Proof.Machine.execUnknownBD s
  | .unknownBE => Sys2Proof.Machine.execUnknownBE s
  | .unknownBF => Sys2Proof.Machine.execUnknownBF s
  | .unknownC0 => Sys2Proof.Machine.execUnknownC0 s
  | .unknownC1 => Sys2Proof.Machine.execUnknownC1 s
  | .unknownC2 => Sys2Proof.Machine.execUnknownC2 s
  | .unknownC3 => Sys2Proof.Machine.execUnknownC3 s
  | .unknownC4 => Sys2Proof.Machine.execUnknownC4 s
  | .unknownC5 => Sys2Proof.Machine.execUnknownC5 s
  | .unknownC6 => Sys2Proof.Machine.execUnknownC6 s
  | .unknownC7 => Sys2Proof.Machine.execUnknownC7 s
  | .unknownC8 => Sys2Proof.Machine.execUnknownC8 s
  | .unknownC9 => Sys2Proof.Machine.execUnknownC9 s
  | .unknownCA => Sys2Proof.Machine.execUnknownCA s
  | .unknownCB => Sys2Proof.Machine.execUnknownCB s
  | .unknownCC => Sys2Proof.Machine.execUnknownCC s
  | .unknownCD => Sys2Proof.Machine.execUnknownCD s
  | .unknownCE => Sys2Proof.Machine.execUnknownCE s
  | .unknownCF => Sys2Proof.Machine.execUnknownCF s
  | .unknownD0 => Sys2Proof.Machine.execUnknownD0 s
  | .unknownD1 => Sys2Proof.Machine.execUnknownD1 s
  | .unknownD2 => Sys2Proof.Machine.execUnknownD2 s
  | .unknownD3 => Sys2Proof.Machine.execUnknownD3 s
  | .unknownD4 => Sys2Proof.Machine.execUnknownD4 s
  | .unknownD5 => Sys2Proof.Machine.execUnknownD5 s
  | .unknownD6 => Sys2Proof.Machine.execUnknownD6 s
  | .unknownD7 => Sys2Proof.Machine.execUnknownD7 s
  | .unknownD8 => Sys2Proof.Machine.execUnknownD8 s
  | .unknownD9 => Sys2Proof.Machine.execUnknownD9 s
  | .unknownDA => Sys2Proof.Machine.execUnknownDA s
  | .unknownDB => Sys2Proof.Machine.execUnknownDB s
  | .unknownDC => Sys2Proof.Machine.execUnknownDC s
  | .unknownDD => Sys2Proof.Machine.execUnknownDD s
  | .unknownDE => Sys2Proof.Machine.execUnknownDE s
  | .unknownDF => Sys2Proof.Machine.execUnknownDF s
  | .unknownE0 => Sys2Proof.Machine.execUnknownE0 s
  | .unknownE1 => Sys2Proof.Machine.execUnknownE1 s
  | .unknownE2 => Sys2Proof.Machine.execUnknownE2 s
  | .unknownE3 => Sys2Proof.Machine.execUnknownE3 s
  | .unknownE4 => Sys2Proof.Machine.execUnknownE4 s
  | .unknownE5 => Sys2Proof.Machine.execUnknownE5 s
  | .unknownE6 => Sys2Proof.Machine.execUnknownE6 s
  | .unknownE7 => Sys2Proof.Machine.execUnknownE7 s
  | .unknownEA => Sys2Proof.Machine.execUnknownEA s
  | .unknownEB => Sys2Proof.Machine.execUnknownEB s
  | .unknownEC => Sys2Proof.Machine.execUnknownEC s
  | .unknownED => Sys2Proof.Machine.execUnknownED s
  | .unknownEE => Sys2Proof.Machine.execUnknownEE s
  | .unknownEF => Sys2Proof.Machine.execUnknownEF s
  | .unknownF0 => Sys2Proof.Machine.execUnknownF0 s
  | .unknownF1 => Sys2Proof.Machine.execUnknownF1 s
  | .unknownF2 => Sys2Proof.Machine.execUnknownF2 s
  | .unknownF3 => Sys2Proof.Machine.execUnknownF3 s
  | .unknownF4 => Sys2Proof.Machine.execUnknownF4 s
  | .unknownF5 => Sys2Proof.Machine.execUnknownF5 s
  | .unknownF6 => Sys2Proof.Machine.execUnknownF6 s
  | .unknownF7 => Sys2Proof.Machine.execUnknownF7 s
  | .unknownF8 => Sys2Proof.Machine.execUnknownF8 s
  | .unknownF9 => Sys2Proof.Machine.execUnknownF9 s
  | .unknownFA => Sys2Proof.Machine.execUnknownFA s
  | .unknownFB => Sys2Proof.Machine.execUnknownFB s
  | .unknownFC => Sys2Proof.Machine.execUnknownFC s
  | .unknownFD => Sys2Proof.Machine.execUnknownFD s
  | .unknownFE => Sys2Proof.Machine.execUnknownFE s
  | .unknownFF => Sys2Proof.Machine.execUnknownFF s

end Sys2Proof.Machine
end

