-- ==== Sys2Proof/Machine/Fetch.lean ====
section
/-! DEFINITION. The fetch of one instruction: its opcode by FetchByte, then its operand by FetchByte or FetchWord as
the opcode's format says (R52, R70), each byte read when it is consumed (R41). -/

namespace Sys2Proof.Machine

/-- The instruction at `pc`, and the state with `pc` past it. -/
def fetchInstr (s : State) : Instr × State :=
  let op := fetchByte s
  match opcodeEntry op.1 with
  | .imp i => (i, op.2)
  | .imm make => (make (fetchByte op.2).1, (fetchByte op.2).2)
  | .zp make => (make (fetchByte op.2).1, (fetchByte op.2).2)
  | .abs make => (make (fetchWord op.2).1, (fetchWord op.2).2)

/-- A state into which a program image has been loaded (R46) and whose `pc` is the start address, as a reset takes it
from the vector the load wrote (R150, R154). -/
def State.booted (s : State) (start : Addr) (bytes : List Byte) : State :=
  (s.setMem (s.mem.load start bytes)).setPc start

end Sys2Proof.Machine
end

