-- ==== Sys2Proof/Machine/Step.lean ====
section
/-! DEFINITION. One step of the machine (R70). -/

namespace Sys2Proof.Machine

/-- `Step()` (R70): the instruction at `pc` is fetched, then executed with `pc` past it. -/
def step (s : State) : Host.Outcome State Fault Refusal := exec (fetchInstr s).1 (fetchInstr s).2

/-- The state with an instruction word of spec/opcode_table.json loaded as a program at LOAD_DEFAULT and `pc` there, so
that the next step runs it (notes/assumptions/7.md): on `State.reset` it is the boot sequence of R154, Load then
Reset. -/
def State.withFetchWord (s : State) (nbits w : Nat) : State :=
  s.booted Config.loadDefault (tableBytes nbits w)

end Sys2Proof.Machine
end

