-- ==== Sys2Proof/Machine/HostOps.lean ====
section
/-! DEFINITION. What each of the host's operations does to the machine (R144): load, read and write memory, reset
(`resetCore`), inspect. The run is in Run.lean; when the host may act is in Session.lean. -/

namespace Sys2Proof.Machine

/-- `Load(bytes, start)` (R46): the image, then the reset vector; no register changes. An image that runs past `0xFFFF`
is refused (D15). -/
def hostLoad (bytes : List Byte) (start : Addr) (s : State) : Result :=
  if start.toNat + bytes.length ≤ Config.memSize then .next (s.setMem (s.mem.load start bytes))
  else .refused (.loadPastEnd start.toNat bytes.length)

/-- The host's load with the default start address (R4, R46). -/
def hostLoadDefault (bytes : List Byte) (s : State) : Result := hostLoad bytes Config.loadDefault s

/-- The store's `read` (R47): OutOfBounds outside `[0, 65536)` (R32, R131). -/
def hostRead (addr : Nat) (s : State) : Except Fault Byte :=
  if addr < Config.memSize then .ok (s.memRead (BitVec.ofNat 16 addr)) else .error (.outOfBounds addr)

/-- The store's `write` (R47): the value is truncated to one byte (R31); OutOfBounds outside `[0, 65536)`, and then
nothing is written (R131). -/
def hostWrite (addr value : Nat) (s : State) : Result :=
  if addr < Config.memSize then .next (s.memWrite (BitVec.ofNat 16 addr) (BitVec.ofNat 8 value))
  else .fault (.outOfBounds addr)

/-- The six registers, as the debug snapshot and the host's inspection show them (R26, R139, C4). -/
structure Snapshot where
  pc : Addr
  a : Byte
  x : Byte
  y : Byte
  sp : Byte
  status : Byte
  deriving DecidableEq, Repr

/-- `Snapshot(pc, a, x, y, sp, status)` (R77, R139); the host's Inspect reads the same six (R144). -/
def inspect (s : State) : Snapshot :=
  { pc := s.pc, a := s.a, x := s.x, y := s.y, sp := s.sp, status := s.status }

end Sys2Proof.Machine
end

