-- ==== Sys2Proof/Machine/Run.lean ====
section
/-! DEFINITION. The run loop (R77), under fuel, since a run need not end (R164). -/

namespace Sys2Proof.Machine

/-- How a run stands when it ends or its fuel does. -/
inductive RunEnd where
  /-- A step's outcome was Halt: the run returned (R77, R156). -/
  | halted
  /-- The fuel ended first. -/
  | running
  /-- A step stopped; no step does (R79). -/
  | stopped
  deriving DecidableEq, Repr

/-- What a run has done: the last state, how it stands, how many opcodes it consumed, and what it emitted, in order:
the debug snapshots (R139) and the UnknownOpcode reports (R132). -/
structure RunResult where
  final : State
  ended : RunEnd
  consumed : Nat
  snapshots : List Snapshot
  reports : List Byte
  deriving DecidableEq, Repr

/-- One iteration's outputs put before those of the rest of the run. -/
def RunResult.after (r : RunResult) (snaps : List Snapshot) (report : Option Byte) : RunResult :=
  { r with consumed := r.consumed + 1, snapshots := snaps ++ r.snapshots, reports := report.toList ++ r.reports }

/-- The snapshot of one iteration, if debug is on (R77). -/
def debugSnapshot (debug : Bool) (s : State) : List Snapshot := if debug then [inspect s] else []

/-- `Run(debug)` (R77) for at most `fuel` steps. -/
def run (debug : Bool) : Nat → State → RunResult
  | 0, s => ⟨s, .running, 0, [], []⟩
  | fuel + 1, s =>
    match step s with
    | .next t =>
      if t.outcome = some .halt then (⟨t, .halted, 0, [], []⟩ : RunResult).after (debugSnapshot debug s) t.report
      else (run debug fuel t).after (debugSnapshot debug s) t.report
    | .fault _ => ⟨s, .stopped, 0, debugSnapshot debug s, []⟩
    | .refused _ => ⟨s, .stopped, 0, debugSnapshot debug s, []⟩

end Sys2Proof.Machine
end

