-- ==== Sys2Proof/Machine/Session.lean ====
section
/-! DEFINITION. The host and the machine together (R144): the host acts before the first run or after a run has returned,
and while a run is in progress it has no move. Whether a run is in progress is a property of the host's control and no
register (R140 a), so it stands beside the machine's state and not in it. -/

namespace Sys2Proof.Machine

/-- What the host's control is doing (R140). -/
inductive Phase where
  /-- No run is in progress: before the first one, or after one has returned. -/
  | idle
  /-- Inside `Run(debug)`. -/
  | running (debug : Bool)
  deriving DecidableEq, Repr

/-- The machine under its host. -/
structure Session where
  machine : State
  phase : Phase
  deriving DecidableEq, Repr

/-- What the host may tell the machine to do (R144). It has no command that writes a register and none that stops a
run. -/
inductive HostCommand where
  /-- `Load(bytes, start = 0x8000)`. -/
  | load (bytes : List Byte) (start : Addr := Config.loadDefault)
  /-- The store's write of one byte. -/
  | write (addr value : Nat)
  /-- `Reset`. -/
  | reset
  /-- `Run(debug)`. -/
  | run (debug : Bool)
  deriving DecidableEq, Repr

/-- The session from which the model starts: a reset has been performed (R153), no run is in progress. -/
def Session.start : Session := ⟨State.reset, .idle⟩

/-- The session after an operation on the machine of an idle host. -/
def idleAfter : Result → Host.Outcome Session Fault Refusal
  | .next t => .next ⟨t, .idle⟩
  | .fault f => .fault f
  | .refused r => .refused r

/-- What a command does where no run is in progress. -/
def HostCommand.perform (s : State) : HostCommand → Host.Outcome Session Fault Refusal
  | .load bytes start => idleAfter (hostLoad bytes start s)
  | .write addr value => idleAfter (hostWrite addr value s)
  | .reset => .next ⟨resetCore s, .idle⟩
  | .run debug => .next ⟨s, .running debug⟩

/-- What the host can do only where no run is in progress; during one it is refused (R144, D11). -/
def Session.whenIdle {α : Type} (m : Session) (act : State → Host.Outcome α Fault Refusal) :
    Host.Outcome α Fault Refusal :=
  match m.phase with
  | .idle => act m.machine
  | .running _ => .refused .runInProgress

/-- A command of the host. -/
def Session.command (m : Session) (c : HostCommand) : Host.Outcome Session Fault Refusal :=
  m.whenIdle fun s => c.perform s

/-- The store's read of one byte, by the host. -/
def Session.read (m : Session) (addr : Nat) : Host.Outcome Byte Fault Refusal :=
  m.whenIdle fun s =>
    match hostRead addr s with
    | .ok v => .next v
    | .error f => .fault f

/-- The host's inspection of the six registers (R26). -/
def Session.inspect (m : Session) : Host.Outcome Snapshot Fault Refusal := m.whenIdle fun s => .next (Machine.inspect s)

/-- One iteration of the run in progress (R77): a step, after which the run goes on or has returned. Where none is in
progress nothing moves. -/
def Session.advance (m : Session) : Host.Outcome Session Fault Refusal :=
  match m.phase with
  | .idle => .next m
  | .running debug =>
    match step m.machine with
    | .next t => .next ⟨t, if t.outcome = some .halt then .idle else .running debug⟩
    | .fault f => .fault f
    | .refused r => .refused r

/-- The snapshot that iteration emits first, if `debug` is on (R77, R139). -/
def Session.snapshots (m : Session) : List Snapshot :=
  match m.phase with
  | .idle => []
  | .running debug => debugSnapshot debug m.machine

end Sys2Proof.Machine
end

