-- ==== Sys2Proof/Safety.lean ====
section
/-! DEFINITION. What counts as a safe state and a reachable one, in the terms the claims use. -/

namespace Sys2Proof.Machine

/-- The reserved bits of `status` hold what reset gave them: `status & 0x7C = 0x20` (R25 a). -/
abbrev State.reservedAsReset (s : State) : Prop := s.status &&& 0x7C#8 = 0x20#8

/-- Zero and Negative are not both 1 (R25 b). -/
abbrev State.notZeroAndNegative (s : State) : Prop := ¬ (s.status.getLsbD 1 = true ∧ s.status.getLsbD 7 = true)

/-- The invariant of a machine that has been reset: the status facts of R25 and the canonical form of memory. -/
abbrev State.Inv (s : State) : Prop :=
  s.mem.wf = true ∧ s.reservedAsReset ∧ s.notZeroAndNegative

/-- The sessions that the host's commands and the iterations of its runs lead to after a reset. The host commands only
where no run is in progress, since during one every command is refused (R144). -/
inductive Session.Reachable : Session → Prop where
  | start : Session.Reachable Session.start
  | command {m n : Session} (c : HostCommand) :
      Session.Reachable m → m.command c = .next n → Session.Reachable n
  | advance {m n : Session} : Session.Reachable m → m.advance = .next n → Session.Reachable n

/-- The states a machine can come to after a reset, during a run and between runs. -/
def Reachable (s : State) : Prop := ∃ m : Session, m.Reachable ∧ m.machine = s

/-- `Advances n m m'`: `n` iterations of a run lead from `m` to `m'`. -/
inductive Advances : Nat → Session → Session → Prop where
  | none (m : Session) : Advances 0 m m
  | more {n : Nat} {m m' m'' : Session} : m.advance = .next m' → Advances n m' m'' → Advances (n + 1) m m''

/-- `Steps n s t`: `n` steps lead from `s` to `t`. -/
inductive Steps : Nat → State → State → Prop where
  | none (s : State) : Steps 0 s s
  | more {n : Nat} {s t u : State} : Machine.step s = .next t → Steps n t u → Steps (n + 1) s u

end Sys2Proof.Machine
end

