-- ==== Sys2Proof/Certificates/Slice0/Obligations.lean ====
section
/-! DEFINITION. The statements for the provers. Those about one instruction say, in one piece: that `exec` answers a
next state, the instruction's result, its flags, and its frame (every other register and every other byte); and that a
step which finds the opcode at `pc` runs it, with `pc` past its bytes. In `exec`, the operand bytes have been fetched and
`pc` is past the instruction, as R70 has it on entry to a handler. A step's outcome and report are outputs, which this
model holds in two fields of its own (notes/assumptions/4.md). -/

namespace Sys2Proof.Claims

open Sys2Proof.Machine

/-- Zero and Negative of `after` are those of the byte `v`, and every other bit is as in `before` (R75). -/
def ZNFrom (before after v : Byte) : Prop :=
  after.getLsbD 1 = decide (v = 0#8) ∧ after.getLsbD 7 = v.getLsbD 7 ∧
  ∀ k, k ≠ 1 → k ≠ 7 → after.getLsbD k = before.getLsbD k

/-- Every byte of memory reads in `t` as it does in `s`. -/
def SameMem (s t : State) : Prop := ∀ b, t.mem.read b = s.mem.read b

/-- The outputs of a step that completed an instruction with the opcode `op`: its cycle cost, no report (R76). -/
def Continued (t : State) (op : Byte) : Prop :=
  t.outcome = some (.continued (Config.cycles op).val) ∧ t.report = none

/-- `x`, `y` and `sp` are as before. -/
def SameXYSp (s t : State) : Prop := t.x = s.x ∧ t.y = s.y ∧ t.sp = s.sp

/-- `a`, `x`, `y` and `status` are as before. -/
def SameAXYStatus (s t : State) : Prop := t.a = s.a ∧ t.x = s.x ∧ t.y = s.y ∧ t.status = s.status

/-- The six registers are as before. -/
def SameRegs (s t : State) : Prop := SameAXYStatus s t ∧ t.sp = s.sp ∧ t.pc = s.pc

/-- The opcode byte at `pc`. -/
def opcodeAt (s : State) : Byte := s.mem.read s.pc

/-- The byte `k` places after the opcode, addresses modulo 65536. -/
def byteAt (s : State) (k : Nat) : Byte := s.mem.read (s.pc + BitVec.ofNat 16 k)

/-- The thirteen opcodes of R53. -/
def thirteen : List Byte :=
  [0xA9#8, 0xA2#8, 0xA0#8, 0x85#8, 0x8D#8, 0xE8#8, 0x69#8, 0xE9#8, 0x48#8, 0x68#8, 0x20#8, 0x60#8, 0x00#8]

/-- The six opcodes with one operand byte, with what they build from it (R51, formats IMM and ZP). -/
def byteOperandForms : List (Byte × (Byte → Instr)) :=
  [(0xA9#8, .lda), (0xA2#8, .ldx), (0xA0#8, .ldy), (0x69#8, .adc), (0xE9#8, .sbc), (0x85#8, .staZp)]

/-- The two opcodes with an operand word, with what they build from it (R51, format ABS). -/
def wordOperandForms : List (Byte × (Addr → Instr)) := [(0x8D#8, .staAbs), (0x20#8, .jsr)]

/-- Bytes pushed one after the other. -/
def pushAll : List Byte → State → State
  | [], s => s
  | v :: vs, s => pushAll vs (push v s)

/-- `n` pops, one after the other: the bytes in the order they come, and the state after them. -/
def popMany : Nat → State → List Byte × State
  | 0, s => ([], s)
  | n + 1, s => ((pop s).1 :: (popMany n (pop s).2).1, (popMany n (pop s).2).2)

/-- The byte SetZN is called with, read in the state after the instruction: the destination of the seven instructions
that call it (R75). -/
def znDestination (t : State) : Instr → Option Byte
  | .lda _ | .adc _ | .sbc _ | .pla => some t.a
  | .ldx _ | .inx => some t.x
  | .ldy _ => some t.y
  | _ => none

/-- Two states that differ at most in the Zero and Negative flags and in the outputs of the last step. -/
def AgreeButZN (s s' : State) : Prop :=
  s'.a = s.a ∧ s'.x = s.x ∧ s'.y = s.y ∧ s'.sp = s.sp ∧ s'.pc = s.pc ∧ s'.mem = s.mem ∧
  ∀ k, k ≠ 1 → k ≠ 7 → s'.status.getLsbD k = s.status.getLsbD k

end Sys2Proof.Claims

open Sys2Proof Sys2Proof.Machine Sys2Proof.Claims

/-! ### The instructions -/

/-- R90. LDA #: the accumulator, Z and N from the operand, nothing else; the operand is the byte after the opcode. -/
def Obligations.LdaLoadsAccumulator : Prop :=
  (∀ imm s, ∃ t, exec (.lda imm) s = .next t ∧ t.a = imm ∧ ZNFrom s.status t.status imm ∧ SameXYSp s t ∧
    t.pc = s.pc ∧ SameMem s t ∧ Continued t 0xA9#8) ∧
  (∀ s, opcodeAt s = 0xA9#8 → step s = exec (.lda (byteAt s 1)) (s.setPc (s.pc + 2#16)))

/-- R91. LDX #. -/
def Obligations.LdxLoadsX : Prop :=
  (∀ imm s, ∃ t, exec (.ldx imm) s = .next t ∧ t.x = imm ∧ ZNFrom s.status t.status imm ∧
    t.a = s.a ∧ t.y = s.y ∧ t.sp = s.sp ∧ t.pc = s.pc ∧ SameMem s t ∧ Continued t 0xA2#8) ∧
  (∀ s, opcodeAt s = 0xA2#8 → step s = exec (.ldx (byteAt s 1)) (s.setPc (s.pc + 2#16)))

/-- R92. LDY #. -/
def Obligations.LdyLoadsY : Prop :=
  (∀ imm s, ∃ t, exec (.ldy imm) s = .next t ∧ t.y = imm ∧ ZNFrom s.status t.status imm ∧
    t.a = s.a ∧ t.x = s.x ∧ t.sp = s.sp ∧ t.pc = s.pc ∧ SameMem s t ∧ Continued t 0xA0#8) ∧
  (∀ s, opcodeAt s = 0xA0#8 → step s = exec (.ldy (byteAt s 1)) (s.setPc (s.pc + 2#16)))

/-- R95. STA zp: the byte at the zero-extended operand becomes the accumulator; no register but `pc`, no flag and no
other byte changes. The address is at most `0x00FF`, and the operand is read before the write. -/
def Obligations.StaZeroPageStoresAccumulator : Prop :=
  (∀ zp s, ∃ t, exec (.staZp zp) s = .next t ∧ t.mem.read (zeroPageAddr zp) = s.a ∧
    (∀ b, b ≠ zeroPageAddr zp → t.mem.read b = s.mem.read b) ∧ SameRegs s t ∧ Continued t 0x85#8) ∧
  (∀ zp, (zeroPageAddr zp).toNat = zp.toNat) ∧
  (∀ s, opcodeAt s = 0x85#8 → step s = exec (.staZp (byteAt s 1)) (s.setPc (s.pc + 2#16)))

/-- R96. STA abs: the same at any 16-bit address, low operand byte first. -/
def Obligations.StaAbsoluteStoresAccumulator : Prop :=
  (∀ w s, ∃ t, exec (.staAbs w) s = .next t ∧ t.mem.read (absoluteAddr w) = s.a ∧
    (∀ b, b ≠ absoluteAddr w → t.mem.read b = s.mem.read b) ∧ SameRegs s t ∧ Continued t 0x8D#8) ∧
  (∀ w, absoluteAddr w = w) ∧
  (∀ s, opcodeAt s = 0x8D#8 →
    ∃ w : Addr, w.toNat = (byteAt s 2).toNat * 256 + (byteAt s 1).toNat ∧
      step s = exec (.staAbs w) (s.setPc (s.pc + 3#16)))

/-- R100. INX: `x + 1` modulo 256, Z and N from it, Carry and every other bit as before. -/
def Obligations.InxIncrementsX : Prop :=
  (∀ s, ∃ t, exec .inx s = .next t ∧ t.x.toNat = (s.x.toNat + 1) % 256 ∧ ZNFrom s.status t.status t.x ∧
    t.a = s.a ∧ t.y = s.y ∧ t.sp = s.sp ∧ t.pc = s.pc ∧ SameMem s t ∧ Continued t 0xE8#8) ∧
  (∀ s, opcodeAt s = 0xE8#8 → step s = exec .inx (s.setPc (s.pc + 1#16)))

/-- R105. ADC #: the 9-bit sum; its low byte into the accumulator, its bit 8 into Carry in both directions, Z and N from
the low byte, bits 2 to 6 of `status` as before. -/
def Obligations.AdcAddsWithCarry : Prop :=
  (∀ imm s, ∃ t, exec (.adc imm) s = .next t ∧
    t.a.toNat = (s.a.toNat + imm.toNat + (s.status.getLsbD 0).toNat) % 256 ∧
    t.status.getLsbD 0 = decide (s.a.toNat + imm.toNat + (s.status.getLsbD 0).toNat > 255) ∧
    t.status.getLsbD 1 = decide (t.a = 0#8) ∧ t.status.getLsbD 7 = t.a.getLsbD 7 ∧
    (∀ k, k ≠ 0 → k ≠ 1 → k ≠ 7 → t.status.getLsbD k = s.status.getLsbD k) ∧
    SameXYSp s t ∧ t.pc = s.pc ∧ SameMem s t ∧ Continued t 0x69#8) ∧
  (∀ s, opcodeAt s = 0x69#8 → step s = exec (.adc (byteAt s 1)) (s.setPc (s.pc + 2#16)))

/-- R106. SBC #: the integer difference with floor modulus; Z and N from the result; Carry is NOT written. -/
def Obligations.SbcSubtractsAndKeepsCarry : Prop :=
  (∀ imm s, ∃ t, exec (.sbc imm) s = .next t ∧
    (t.a.toNat : Int) = ((s.a.toNat : Int) - imm.toNat - (1 - (s.status.getLsbD 0).toNat)) % 256 ∧
    ZNFrom s.status t.status t.a ∧ t.status.getLsbD 0 = s.status.getLsbD 0 ∧
    SameXYSp s t ∧ t.pc = s.pc ∧ SameMem s t ∧ Continued t 0xE9#8) ∧
  (∀ s, opcodeAt s = 0xE9#8 → step s = exec (.sbc (byteAt s 1)) (s.setPc (s.pc + 2#16)))

/-- R110. PHA: the accumulator at `0x0100 + sp`, `sp` one less modulo 256, no flag and nothing else. -/
def Obligations.PhaPushesAccumulator : Prop :=
  (∀ s, ∃ t, exec .pha s = .next t ∧ t.mem.read (stackAddr s.sp) = s.a ∧
    (∀ b, b ≠ stackAddr s.sp → t.mem.read b = s.mem.read b) ∧ t.sp = s.sp - 1#8 ∧
    SameAXYStatus s t ∧ t.pc = s.pc ∧ Continued t 0x48#8) ∧
  (∀ s, opcodeAt s = 0x48#8 → step s = exec .pha (s.setPc (s.pc + 1#16)))

/-- R111. PLA: `sp` one more modulo 256, the accumulator from the cell it then designates, Z and N from that byte. -/
def Obligations.PlaPullsAccumulator : Prop :=
  (∀ s, ∃ t, exec .pla s = .next t ∧ t.a = s.mem.read (stackAddr (s.sp + 1#8)) ∧ t.sp = s.sp + 1#8 ∧
    ZNFrom s.status t.status t.a ∧ t.x = s.x ∧ t.y = s.y ∧ t.pc = s.pc ∧ SameMem s t ∧ Continued t 0x68#8) ∧
  (∀ s, opcodeAt s = 0x68#8 → step s = exec .pla (s.setPc (s.pc + 1#16)))

/-- JSR: the address of its last byte on the stack, high byte first, both bytes read before either push; `pc` the
target. That `pc - 1` is taken modulo 65536 is the spec's own decision D3. -/
def Obligations.JsrPushesReturnAddressAndJumps : Prop :=
  (∀ w s, ∃ t, exec (.jsr w) s = .next t ∧ t.pc = w ∧ t.sp = s.sp - 2#8 ∧
    (t.mem.read (stackAddr s.sp)).toNat * 256 + (t.mem.read (stackAddr (s.sp - 1#8))).toNat
      = (s.pc.toNat + 65535) % 65536 ∧
    (∀ b, b ≠ stackAddr s.sp → b ≠ stackAddr (s.sp - 1#8) → t.mem.read b = s.mem.read b) ∧
    SameAXYStatus s t ∧ Continued t 0x20#8) ∧
  (∀ s, opcodeAt s = 0x20#8 →
    ∃ w : Addr, w.toNat = (byteAt s 2).toNat * 256 + (byteAt s 1).toNat ∧
      step s = exec (.jsr w) (s.setPc (s.pc + 3#16)))

/-- RTS: low byte, then high byte from the stack; `pc` one past the word. That the `+ 1` is taken modulo 65536 is the
spec's own decision D3. -/
def Obligations.RtsReturnsPastPulledWord : Prop :=
  (∀ s, ∃ t, exec .rts s = .next t ∧
    t.pc.toNat = ((s.mem.read (stackAddr (s.sp + 2#8))).toNat * 256
      + (s.mem.read (stackAddr (s.sp + 1#8))).toNat + 1) % 65536 ∧
    t.sp = s.sp + 2#8 ∧ SameAXYStatus s t ∧ SameMem s t ∧ Continued t 0x60#8) ∧
  (∀ s, opcodeAt s = 0x60#8 → step s = exec .rts (s.setPc (s.pc + 1#16)))

/-- R120. BRK: the outcome is Halt with no cost and no report, `pc` is one past the byte, and nothing else changes;
no step but one that finds `0x00` as its opcode halts. -/
def Obligations.BrkHaltsAndChangesNothing : Prop :=
  (∀ s, ∃ t, exec .brk s = .next t ∧ t.outcome = some .halt ∧ t.report = none ∧ SameRegs s t ∧ SameMem s t) ∧
  (∀ s, opcodeAt s = 0x00#8 → step s = exec .brk (s.setPc (s.pc + 1#16))) ∧
  (∀ s t, step s = .next t → t.outcome = some .halt → opcodeAt s = 0x00#8)

/-- R121. Every unknown opcode, all 243 constructors of it: the report of its byte, the cost 2, nothing else; a step
which finds any byte outside the thirteen at `pc` does that, with `pc` one past the byte. -/
def Obligations.UnknownOpcodesReportAndContinue : Prop :=
  (∀ i op, i.unknownByte = some op → ∀ s, ∃ t, exec i s = .next t ∧ t.outcome = some (.continued 2) ∧
    t.report = some op ∧ SameRegs s t ∧ SameMem s t) ∧
  (∀ s, opcodeAt s ∉ thirteen → ∃ t, step s = .next t ∧ t.pc = s.pc + 1#16 ∧ SameAXYStatus s t ∧ t.sp = s.sp ∧
    SameMem s t ∧ t.outcome = some (.continued 2) ∧ t.report = some (opcodeAt s))

/-! ### The step and its outcome -/

/-- A step runs the decoded instruction: where the three bytes at `pc` decode to `i`, a step is `exec i` with `pc` past
the bytes of `i`. -/
def Obligations.StepRunsDecodedInstruction : Prop :=
  ∀ s i rest, decode [byteAt s 0, byteAt s 1, byteAt s 2] = .ok (i, rest) → i.wf = true →
    step s = exec i (s.setPc (s.pc + BitVec.ofNat 16 i.length))

/-- R79. Every step is defined, for every state, and gives one next state and one outcome. -/
def Obligations.EveryStepCompletes : Prop :=
  ∀ s, ∃ t, step s = .next t ∧ t.outcome ≠ none ∧ ∀ t', step s = .next t' → t' = t

/-- R76. Halt for the opcode `0x00` and for no other; a positive cost for the other twelve; the cost 2 and the report for
every other byte; and what the last step output is read by no step. -/
def Obligations.StepOutcomeGivenByOpcode : Prop :=
  (∀ s t, step s = .next t →
    (t.outcome = some .halt ↔ opcodeAt s = 0x00#8) ∧
    (opcodeAt s ∈ thirteen → t.report = none) ∧
    (opcodeAt s ∈ thirteen → opcodeAt s ≠ 0x00#8 →
      ∃ n, 0 < n ∧ n = (Config.cycles (opcodeAt s)).val ∧ t.outcome = some (.continued n)) ∧
    (opcodeAt s ∉ thirteen → t.outcome = some (.continued 2) ∧ t.report = some (opcodeAt s))) ∧
  (∀ s o r, step (s.setOutput o r) = step s)

/-! ### Encoding -/

/-- Words written out from the encodings of 30_encoding.md sections 1 and 6 decode to what they stand for. -/
def Obligations.WrittenWordsDecode : Prop :=
  decode [0xA9#8, 0x10#8] = .ok (.lda 0x10#8, []) ∧ decode [0xE8#8] = .ok (.inx, []) ∧
  decode [0x00#8] = .ok (.brk, []) ∧ decode [0x8D#8, 0x00#8, 0x02#8] = .ok (.staAbs 0x0200#16, []) ∧
  decode [0x85#8, 0x10#8] = .ok (.staZp 0x10#8, []) ∧ decode [0x20#8, 0x09#8, 0x80#8] = .ok (.jsr 0x8009#16, []) ∧
  decode [0xEA#8, 0x00#8] = .ok (.unknownEA, [0x00#8])

/-- Decoding the bytes of an instruction gives that instruction back, whatever follows them: no bit of an operand is
lost. -/
def Obligations.DecodeOfEncode : Prop :=
  ∀ i rest, i.wf = true → decode (encode i ++ rest) = .ok (i, rest)

/-- What decodes to an instruction is that instruction's own encoding: no two byte strings stand for one. -/
def Obligations.EncodeOfDecode : Prop :=
  ∀ bs i rest, decode bs = .ok (i, rest) → i.wf = true ∧ encode i ++ rest = bs

/-- R60. The first byte alone tells the length: 2 for six values, 3 for two, 1 for every other. -/
def Obligations.OpcodeByteTellsLength : Prop :=
  ∀ b0 bs i rest, decode (b0 :: bs) = .ok (i, rest) →
    i.length = (if b0 = 0xA9#8 ∨ b0 = 0xA2#8 ∨ b0 = 0xA0#8 ∨ b0 = 0x69#8 ∨ b0 = 0xE9#8 ∨ b0 = 0x85#8 then 2
      else if b0 = 0x8D#8 ∨ b0 = 0x20#8 then 3 else 1) ∧
    bs.length + 1 = i.length + rest.length

/-- The decoder refuses a byte string only where the string ends before the instruction does, and takes the whole of it
exactly where it is one well-formed encoding. -/
def Obligations.DecoderRefusesOnlyMissingBytes : Prop :=
  (∀ bs, (∃ e, decode bs = .error e) ↔ bs = [] ∨ ∃ b0 rest, bs = b0 :: rest ∧ bs.length < lengthOfOpcode b0) ∧
  (∀ bs, (∃ i, decode bs = .ok (i, [])) ↔ encodingWf bs = true)

/-- Every byte outside the thirteen decodes, alone, to an unknown opcode carrying that byte, and no byte of the thirteen
does. -/
def Obligations.OtherBytesDecodeAsUnknown : Prop :=
  ∀ b0 rest, (∃ i, decode (b0 :: rest) = .ok (i, rest) ∧ i.unknownByte = some b0) ↔ b0 ∉ thirteen

/-- R52. The operand of each format: the byte itself; the byte zero-extended; `B2*256 + B1`; none. The fetch obtains the
bytes by FetchByte or FetchWord, which advance `pc`. -/
def Obligations.OperandsAssembled : Prop :=
  (∀ b rest, decode (0xA9#8 :: b :: rest) = .ok (.lda b, rest) ∧ decode (0xA2#8 :: b :: rest) = .ok (.ldx b, rest) ∧
    decode (0xA0#8 :: b :: rest) = .ok (.ldy b, rest) ∧ decode (0x69#8 :: b :: rest) = .ok (.adc b, rest) ∧
    decode (0xE9#8 :: b :: rest) = .ok (.sbc b, rest)) ∧
  (∀ b rest, decode (0x85#8 :: b :: rest) = .ok (.staZp b, rest) ∧ (zeroPageAddr b).toNat = b.toNat) ∧
  (∀ b1 b2 rest, ∃ w : Addr, w.toNat = b2.toNat * 256 + b1.toNat ∧
    decode (0x8D#8 :: b1 :: b2 :: rest) = .ok (.staAbs w, rest) ∧
    decode (0x20#8 :: b1 :: b2 :: rest) = .ok (.jsr w, rest)) ∧
  (∀ rest, decode (0xE8#8 :: rest) = .ok (.inx, rest) ∧ decode (0x48#8 :: rest) = .ok (.pha, rest) ∧
    decode (0x68#8 :: rest) = .ok (.pla, rest) ∧ decode (0x60#8 :: rest) = .ok (.rts, rest) ∧
    decode (0x00#8 :: rest) = .ok (.brk, rest)) ∧
  (∀ s op make, (op, make) ∈ byteOperandForms → opcodeAt s = op →
    fetchInstr s = (make (fetchByte (fetchByte s).2).1, (fetchByte (fetchByte s).2).2)) ∧
  (∀ s op make, (op, make) ∈ wordOperandForms → opcodeAt s = op →
    fetchInstr s = (make (fetchWord (fetchByte s).2).1, (fetchWord (fetchByte s).2).2)) ∧
  (∀ s, lengthOfOpcode (opcodeAt s) = 1 → (fetchInstr s).2 = (fetchByte s).2)

/-! ### The shared operations -/

/-- R71. FetchByte: the byte at `pc`, `pc` one further modulo 65536, nothing else; and the fetch of an instruction moves
the state by FetchBytes alone, as many as the instruction has bytes. -/
def Obligations.FetchByteReadsAndAdvances : Prop :=
  (∀ s, (fetchByte s).1 = s.mem.read s.pc ∧ (fetchByte s).2.pc.toNat = (s.pc.toNat + 1) % 65536 ∧
    (fetchByte s).2 = s.setPc (fetchByte s).2.pc) ∧
  (∀ s, (fetchInstr s).2 = (fun u => (fetchByte u).2)^[(fetchInstr s).1.length] s)

/-- R72. FetchWord: two FetchBytes, low byte first. -/
def Obligations.FetchWordIsLittleEndian : Prop :=
  ∀ s, (fetchWord s).1.toNat = (fetchByte (fetchByte s).2).1.toNat * 256 + (fetchByte s).1.toNat ∧
    (fetchWord s).2 = (fetchByte (fetchByte s).2).2 ∧ (fetchWord s).2.pc.toNat = (s.pc.toNat + 2) % 65536

/-- R73. Push: the byte at `0x0100 + sp`, then `sp` one less modulo 256; no flag, no other register, no other byte; after
256 pushes the next one goes to the first one's cell. -/
def Obligations.PushStoresThenDecrements : Prop :=
  (∀ sp, (stackAddr sp).toNat = 0x0100 + sp.toNat) ∧
  (∀ v s, (push v s).mem.read (stackAddr s.sp) = v ∧
    (∀ b, b ≠ stackAddr s.sp → (push v s).mem.read b = s.mem.read b) ∧
    (push v s).sp.toNat = (s.sp.toNat + 255) % 256 ∧ SameAXYStatus s (push v s) ∧ (push v s).pc = s.pc) ∧
  (∀ vs s, vs.length = 256 → stackAddr (pushAll vs s).sp = stackAddr s.sp)

/-- R74. Pop: `sp` one more modulo 256, then the byte it designates; the cell is not cleared, no flag changes; and a pop
after a push gives the byte back with `sp` as it was, at every `sp`. -/
def Obligations.PopIncrementsThenReads : Prop :=
  (∀ s, (pop s).2.sp.toNat = (s.sp.toNat + 1) % 256 ∧ (pop s).1 = s.mem.read (stackAddr (pop s).2.sp) ∧
    SameMem s (pop s).2 ∧ SameAXYStatus s (pop s).2 ∧ (pop s).2.pc = s.pc) ∧
  (∀ v s, (pop (push v s)).1 = v ∧ (pop (push v s)).2.sp = s.sp)

/-- R75. SetZN: Zero and Negative from the value, every other bit untouched, in its two forms; and who calls it: exactly
the seven instructions, each with the byte it has just written. -/
def Obligations.SetZNAndItsCallers : Prop :=
  (∀ (s : State) v, ZNFrom s.status (s.setZN v).status v) ∧
  (∀ st v : Byte, setZN st v = (st &&& 0x7D#8) ||| (v &&& 0x80#8) ||| (if v = 0#8 then 0x02#8 else 0x00#8)) ∧
  (∀ i s t, exec i s = .next t →
    (∀ v, znDestination t i = some v → t.status.getLsbD 1 = decide (v = 0#8) ∧ t.status.getLsbD 7 = v.getLsbD 7) ∧
    (znDestination t i = none →
      t.status.getLsbD 1 = s.status.getLsbD 1 ∧ t.status.getLsbD 7 = s.status.getLsbD 7))

/-! ### Registers and flags over the whole machine -/

/-- R20. Bits 2 to 6 of `status` are written by reset only, to 0, 0, 0, 1, 0: every step keeps them. SetZN changes at
most bits 1 and 7, ADC's carry update at most bit 0. -/
def Obligations.ReservedStatusBitsPreserved : Prop :=
  (∀ s t, step s = .next t → ∀ k, 2 ≤ k → k ≤ 6 → t.status.getLsbD k = s.status.getLsbD k) ∧
  (∀ s, (resetCore s).status.getLsbD 2 = false ∧ (resetCore s).status.getLsbD 3 = false ∧
    (resetCore s).status.getLsbD 4 = false ∧ (resetCore s).status.getLsbD 5 = true ∧
    (resetCore s).status.getLsbD 6 = false) ∧
  (∀ (st v : Byte) k, k ≠ 1 → k ≠ 7 → (setZN st v).getLsbD k = st.getLsbD k) ∧
  (∀ (st : Byte) c k, k ≠ 0 → (setCarry st c).getLsbD k = st.getLsbD k)

/-- Carry is written by ADC only, and by every ADC, to whether the sum exceeds 255: so it becomes 1 only by an ADC whose
sum exceeds 255 and 0 only by one whose sum does not. An inference the spec marks as derived. -/
def Obligations.CarryWrittenOnlyByAdc : Prop :=
  ∀ i s t, exec i s = .next t →
    ((∀ imm, i ≠ .adc imm) → t.status.getLsbD 0 = s.status.getLsbD 0) ∧
    (∀ imm, i = .adc imm →
      t.status.getLsbD 0 = decide (s.a.toNat + imm.toNat + (s.status.getLsbD 0).toNat > 255)) ∧
    (s.status.getLsbD 0 = false → t.status.getLsbD 0 = true →
      ∃ imm, i = .adc imm ∧ s.a.toNat + imm.toNat > 255) ∧
    (s.status.getLsbD 0 = true → t.status.getLsbD 0 = false →
      ∃ imm, i = .adc imm ∧ s.a.toNat + imm.toNat + 1 ≤ 255)

/-- R14. The stack pointer designates a cell of `0x0100` to `0x01FF`; only PHA, PLA, JSR and RTS change it, by one or
two modulo 256, and reset sets it to `0xFD`. -/
def Obligations.StackPointerMovedOnlyByStackInstructions : Prop :=
  (∀ sp, (stackAddr sp).toNat = 0x0100 + sp.toNat) ∧
  (∀ i s t, exec i s = .next t →
    (i = .pha → t.sp = s.sp - 1#8) ∧ (i = .pla → t.sp = s.sp + 1#8) ∧
    ((∃ w, i = .jsr w) → t.sp = s.sp - 2#8) ∧ (i = .rts → t.sp = s.sp + 2#8) ∧
    (i ≠ .pha → i ≠ .pla → (∀ w, i ≠ .jsr w) → i ≠ .rts → t.sp = s.sp)) ∧
  (∀ s, (resetCore s).sp = 0xFD#8)

/-- The program counter after a step: past the instruction, but for JSR, which loads its operand, and RTS, which loads
the pulled word plus one. The wrap of that `+ 1` is the spec's own decision D3. -/
def Obligations.ProgramCounterAfterStep : Prop :=
  ∀ s t, step s = .next t →
    (opcodeAt s = 0x20#8 → t.pc.toNat = (byteAt s 2).toNat * 256 + (byteAt s 1).toNat) ∧
    (opcodeAt s = 0x60#8 → t.pc.toNat = ((s.mem.read (stackAddr (s.sp + 2#8))).toNat * 256
      + (s.mem.read (stackAddr (s.sp + 1#8))).toNat + 1) % 65536) ∧
    (opcodeAt s ≠ 0x20#8 → opcodeAt s ≠ 0x60#8 →
      t.pc.toNat = (s.pc.toNat + lengthOfOpcode (opcodeAt s)) % 65536)

/-- Which bytes a step can change: the cell STA names, the cell PHA pushes to, the two cells JSR pushes to, and no
other. -/
def Obligations.MemoryChangedOnlyByStores : Prop :=
  ∀ s t, step s = .next t → ∀ b, t.mem.read b ≠ s.mem.read b →
    (opcodeAt s = 0x85#8 ∧ b.toNat = (byteAt s 1).toNat) ∨
    (opcodeAt s = 0x8D#8 ∧ b.toNat = (byteAt s 2).toNat * 256 + (byteAt s 1).toNat) ∨
    (opcodeAt s = 0x48#8 ∧ b = stackAddr s.sp) ∨
    (opcodeAt s = 0x20#8 ∧ (b = stackAddr s.sp ∨ b = stackAddr (s.sp - 1#8)))

/-- `y` influences nothing but itself, and `x` nothing but itself and, by INX, Zero and Negative: a step from a state with
another `y` ends in the same state but for `y`, and the same for `x` where the instruction is not INX; an INX from a state
with another `x` ends in a state that differs at most in `x`, Zero and Negative, with the same outputs. -/
def Obligations.XAndYInfluenceNothingElse : Prop :=
  (∀ s t v, step s = .next t → step (s.setY v) = .next (if opcodeAt s = 0xA0#8 then t else t.setY v)) ∧
  (∀ s t v, step s = .next t → opcodeAt s ≠ 0xE8#8 →
    step (s.setX v) = .next (if opcodeAt s = 0xA2#8 then t else t.setX v)) ∧
  (∀ s t v, step s = .next t → opcodeAt s = 0xE8#8 →
    ∃ t', step (s.setX v) = .next t' ∧ AgreeButZN t (t'.setX t.x) ∧ t'.outcome = t.outcome ∧ t'.report = t.report)

/-- No instruction reads Zero or Negative: steps from two states that differ at most there end in states that differ at
most there, with the same outputs. -/
def Obligations.ZeroAndNegativeInfluenceNothingElse : Prop :=
  ∀ s s' t, AgreeButZN s s' → step s = .next t →
    ∃ t', step s' = .next t' ∧ AgreeButZN t t' ∧ t'.outcome = t.outcome ∧ t'.report = t.report

/-! ### Invariants -/

/-- Every step keeps the invariant: memory in its canonical form (the model's own, notes/assumptions/2.md), the reserved
bits of `status` as reset left them, Zero and Negative not both 1. -/
def Obligations.StepKeepsInvariant : Prop := ∀ s t, s.Inv → step s = .next t → t.Inv

/-- The invariant holds right after reset. -/
def Obligations.InvariantAtReset : Prop := State.reset.Inv

/-- In every state that runs and the host's commands between runs reach from reset, the invariant holds and `status` is
one of six values (an inference the spec marks as derived). -/
def Obligations.ReachableStatusHasSixValues : Prop :=
  ∀ s, Reachable s → s.Inv ∧ s.status ∈ [0x20#8, 0x21#8, 0x22#8, 0x23#8, 0xA0#8, 0xA1#8]

/-! ### Laws over several instructions -/

/-- A store is seen by the next fetch: after an STA abs onto the address that follows it, the next opcode is the byte
stored. -/
def Obligations.StoreSeenByNextFetch : Prop :=
  ∀ s t, opcodeAt s = 0x8D#8 → (byteAt s 2).toNat * 256 + (byteAt s 1).toNat = (s.pc.toNat + 3) % 65536 →
    step s = .next t → (fetchByte t).1 = s.a ∧ (fetchInstr t).1.opcode = s.a

/-- PHA then PLA: `a` and `sp` are back, no byte but the one stack cell has changed, Z and N are those of `a`; at every
`sp`. -/
def Obligations.PhaPlaRoundTrip : Prop :=
  ∀ s, ∃ t u, exec .pha s = .next t ∧ exec .pla t = .next u ∧ u.a = s.a ∧ u.sp = s.sp ∧
    (∀ b, b ≠ stackAddr s.sp → u.mem.read b = s.mem.read b) ∧ ZNFrom s.status u.status s.a

/-- The stack is last-in first-out over a window of 256 cells: up to 256 pushed bytes come back in reverse order, and
`sp` with them, from every starting `sp`. -/
def Obligations.StackIsLastInFirstOut : Prop :=
  ∀ vs s, vs.length ≤ 256 →
    (popMany vs.length (pushAll vs s)).1 = vs.reverse ∧ (popMany vs.length (pushAll vs s)).2.sp = s.sp

/-- JSR and a later RTS that finds `sp` and the two cells as the JSR left them: `pc` is at the instruction after the JSR,
and `sp` as before it; for every address of the JSR and every `sp`. -/
def Obligations.JsrRtsRoundTrip : Prop :=
  ∀ s t u, opcodeAt s = 0x20#8 → step s = .next t → opcodeAt u = 0x60#8 → u.sp = t.sp →
    u.mem.read (stackAddr s.sp) = t.mem.read (stackAddr s.sp) →
    u.mem.read (stackAddr (s.sp - 1#8)) = t.mem.read (stackAddr (s.sp - 1#8)) →
    ∃ v, step u = .next v ∧ v.pc = s.pc + 3#16 ∧ v.sp = s.sp

/-- SBC gives the accumulator, Zero and Negative that ADC of the complemented operand gives, and differs from it in
leaving Carry alone; and the two identities: ADC of 0 without carry and SBC of 0 with carry leave `a` as it is. -/
def Obligations.SbcIsAdcOfComplement : Prop :=
  (∀ m s t u, exec (.sbc m) s = .next t → exec (.adc (~~~m)) s = .next u →
    t.a = u.a ∧ t.status.getLsbD 1 = u.status.getLsbD 1 ∧ t.status.getLsbD 7 = u.status.getLsbD 7 ∧
    t.status.getLsbD 0 = s.status.getLsbD 0) ∧
  (∀ s t, s.status.getLsbD 0 = false → exec (.adc 0#8) s = .next t → t.a = s.a ∧ t.status.getLsbD 0 = false) ∧
  (∀ s t, s.status.getLsbD 0 = true → exec (.sbc 0#8) s = .next t → t.a = s.a)

/-! ### Reset, load and the host -/

/-- R150, R152. Reset: `pc` from the little-endian vector, the five constants, memory as it was; whatever the state. -/
def Obligations.ResetSetsRegistersFromVector : Prop :=
  ∀ s, (resetCore s).pc.toNat = (s.mem.read 0xFFFD#16).toNat * 256 + (s.mem.read 0xFFFC#16).toNat ∧
    (resetCore s).sp = 0xFD#8 ∧ (resetCore s).a = 0x00#8 ∧ (resetCore s).x = 0x00#8 ∧ (resetCore s).y = 0x00#8 ∧
    (resetCore s).status = 0x20#8 ∧ SameMem s (resetCore s)

/-- R151. A second reset changes nothing; the registers after a reset depend on the two vector bytes alone, and `pc` is
what those bytes hold then, also where the program has stored them itself. -/
def Obligations.ResetIsIdempotent : Prop :=
  (∀ s, resetCore (resetCore s) = resetCore s) ∧
  (∀ s s', s'.mem.read 0xFFFC#16 = s.mem.read 0xFFFC#16 → s'.mem.read 0xFFFD#16 = s.mem.read 0xFFFD#16 →
    SameRegs (resetCore s) (resetCore s')) ∧
  (∀ (s : State) v w, (resetCore ((s.memWrite 0xFFFC#16 v).memWrite 0xFFFD#16 w)).pc = makeWord w v)

/-- The state the model starts from is the reset operation's, on a machine with nothing loaded: every byte, the vector's
among them, is the open parameter MEM_INIT. Which state the model starts from is its own choice, notes/assumptions/6.md. -/
def Obligations.ResetStateIsUnloadedMachine : Prop :=
  resetCore State.reset = State.reset ∧ (∀ a, State.reset.mem.read a = Config.memInit a) ∧
  State.reset.pc.toNat = (Config.memInit 0xFFFD#16).toNat * 256 + (Config.memInit 0xFFFC#16).toNat

/-- Load: the image from the start address on, then the vector, which names the start address even where the image covers
it; every other byte and every register as before. That the image ends within the memory is the spec's own precondition,
decision D15. -/
def Obligations.LoadCopiesImageAndWritesVector : Prop :=
  (∀ bytes (start : Addr) s, start.toNat + bytes.length ≤ 65536 →
    ∃ t, hostLoad bytes start s = .next t ∧
      (∀ k (hk : k < bytes.length), start.toNat + k ≠ 0xFFFC → start.toNat + k ≠ 0xFFFD →
        t.mem.read (BitVec.ofNat 16 (start.toNat + k)) = bytes[k]) ∧
      (t.mem.read 0xFFFC#16).toNat = start.toNat % 256 ∧ (t.mem.read 0xFFFD#16).toNat = start.toNat / 256 ∧
      (∀ b : Addr, b ≠ 0xFFFC#16 → b ≠ 0xFFFD#16 → b.toNat < start.toNat ∨ start.toNat + bytes.length ≤ b.toNat →
        t.mem.read b = s.mem.read b) ∧
      SameRegs s t) ∧
  (∀ bytes s, hostLoadDefault bytes s = hostLoad bytes 0x8000#16 s)

/-- A load that runs past `0xFFFF` is refused. The model's choice, after decision D15: notes/assumptions/8.md. -/
def Obligations.LoadPastEndRefused : Prop :=
  ∀ bytes (start : Addr) s, 65536 < start.toNat + bytes.length →
    hostLoad bytes start s = .refused (.loadPastEnd start.toNat bytes.length)

/-- R47. The host's write puts the value, truncated to a byte, at its address and nowhere else, and its read gives the
byte that stands there; no register is touched. -/
def Obligations.HostReadsAndWritesBytes : Prop :=
  ∀ addr value s, addr < 65536 → ∃ t, hostWrite addr value s = .next t ∧ SameRegs s t ∧
    hostRead addr t = .ok (BitVec.ofNat 8 value) ∧
    (∀ b, b < 65536 → b ≠ addr → hostRead b t = hostRead b s)

/-- R131. OutOfBounds is raised by the host's access outside `[0, 65536)`, which writes nothing, and by no step of the
core: a step neither faults nor is refused. -/
def Obligations.OutOfBoundsOnlyFromTheHost : Prop :=
  (∀ addr value s, 65536 ≤ addr → hostRead addr s = .error (.outOfBounds addr) ∧
    hostWrite addr value s = .fault (.outOfBounds addr)) ∧
  (∀ s f, step s ≠ .fault f) ∧ (∀ s r, step s ≠ .refused r)

/-- R154. Boot: a load, then a reset, makes `pc` the load address, with the other registers as reset gives them and
memory as loaded; a reset without a load takes `pc` from the vector bytes as they were. -/
def Obligations.BootStartsAtLoadAddress : Prop :=
  (∀ bytes start s t, hostLoad bytes start s = .next t →
    (resetCore t).pc = start ∧ (resetCore t).sp = 0xFD#8 ∧ (resetCore t).a = 0#8 ∧ (resetCore t).x = 0#8 ∧
    (resetCore t).y = 0#8 ∧ (resetCore t).status = 0x20#8 ∧ SameMem t (resetCore t)) ∧
  (∀ s, (resetCore s).pc.toNat = (s.mem.read 0xFFFD#16).toNat * 256 + (s.mem.read 0xFFFC#16).toNat)

/-- `withFetchWord` on the state after reset is the boot sequence: load the word's bytes at `0x8000`, then reset. How a
program is placed is the model's own choice, notes/assumptions/7.md. -/
def Obligations.FetchWordPlacedByBoot : Prop :=
  ∀ nbits w t, hostLoadDefault (tableBytes nbits w) State.reset = .next t →
    State.reset.withFetchWord nbits w = resetCore t

/-! ### The run -/

/-- R156. A run ends exactly at the first step whose opcode is `0x00`: if it halted, then some number of steps led to a
state with that opcode, none before had it, and the final state is that one with `pc` one further; and if there is such
a state, a run with fuel enough halts there. -/
def Obligations.RunEndsExactlyAtFirstBrk : Prop :=
  (∀ debug n s, (run debug n s).ended = .halted →
    ∃ k u, k < n ∧ Steps k s u ∧ opcodeAt u = 0x00#8 ∧
      (∀ j v, j < k → Steps j s v → opcodeAt v ≠ 0x00#8) ∧
      (run debug n s).consumed = k + 1 ∧ (run debug n s).final.pc = u.pc + 1#16 ∧
      SameAXYStatus u (run debug n s).final ∧ (run debug n s).final.sp = u.sp ∧
      SameMem u (run debug n s).final ∧ (run debug n s).final.outcome = some .halt) ∧
  (∀ debug n k s u, Steps k s u → opcodeAt u = 0x00#8 → (∀ j v, j < k → Steps j s v → opcodeAt v ≠ 0x00#8) →
    k < n → (run debug n s).ended = .halted ∧ (run debug n s).consumed = k + 1)

/-- R164. A run on whose path no opcode is `0x00` never ends: whatever the fuel, it is still running when the fuel is
spent. -/
def Obligations.RunWithoutBrkNeverEnds : Prop :=
  ∀ s, (∀ k u, Steps k s u → opcodeAt u ≠ 0x00#8) →
    ∀ debug n, (run debug n s).ended = .running ∧ (run debug n s).consumed = n ∧ Steps n s (run debug n s).final

/-- The debug switch changes nothing but the snapshots: none without it, with it one for each opcode consumed, the first
of them the registers the run started with. The spec's own decisions D10 and D19. -/
def Obligations.DebugOnlyAddsSnapshots : Prop :=
  ∀ n s, (run true n s).final = (run false n s).final ∧ (run true n s).ended = (run false n s).ended ∧
    (run true n s).consumed = (run false n s).consumed ∧ (run true n s).reports = (run false n s).reports ∧
    (run false n s).snapshots = [] ∧ (run true n s).snapshots.length = (run true n s).consumed ∧
    (0 < n → (run true n s).snapshots.head? = some (inspect s))

/-- A run started after a halt goes on at the byte after the BRK as from any state: that the last step halted is no state
the machine reads. The spec's own decision D7. -/
def Obligations.RunResumesAfterHalt : Prop :=
  ∀ s t, opcodeAt s = 0x00#8 → step s = .next t →
    ∀ debug n, run debug (n + 1) t = run debug (n + 1) (s.setPc (s.pc + 1#16))

/-! ### The host beside the machine -/

/-- The host acts between runs only: while a run is in progress every command, every memory read and every inspection is
refused; where none is, each does what its operation does, and only Run starts a run, with the machine as it stands. That
it has no move during a run is the spec's own decision D11; the refusal is the model's form of it, notes/assumptions/9.md. -/
def Obligations.HostActsOnlyBetweenRuns : Prop :=
  (∀ m : Session, ∀ debug, m.phase = .running debug →
    (∀ c, m.command c = .refused .runInProgress) ∧ (∀ addr, m.read addr = .refused .runInProgress) ∧
    m.inspect = .refused .runInProgress) ∧
  (∀ m : Session, m.phase = .idle →
    (∀ bytes start n, m.command (.load bytes start) = .next n ↔
      hostLoad bytes start m.machine = .next n.machine ∧ n.phase = .idle) ∧
    (∀ addr value n, m.command (.write addr value) = .next n ↔
      hostWrite addr value m.machine = .next n.machine ∧ n.phase = .idle) ∧
    m.command .reset = .next ⟨resetCore m.machine, .idle⟩ ∧
    (∀ debug, m.command (.run debug) = .next ⟨m.machine, .running debug⟩) ∧
    (∀ addr v, m.read addr = .next v ↔ hostRead addr m.machine = .ok v) ∧
    m.inspect = .next (Machine.inspect m.machine))

/-- A run in progress is the run loop: each iteration is one step, the run has returned exactly if the step's opcode was
`0x00`, and the iterations lead where `run` leads, to an idle host where the run halted. Where no run is in progress
nothing moves. -/
def Obligations.SessionFollowsRunLoop : Prop :=
  (∀ m : Session, m.phase = .idle → m.advance = .next m) ∧
  (∀ m : Session, ∀ debug, m.phase = .running debug →
    ∃ n : Session, m.advance = .next n ∧ step m.machine = .next n.machine ∧
      n.phase = if opcodeAt m.machine = 0x00#8 then .idle else .running debug) ∧
  (∀ debug k s, Advances (run debug k s).consumed ⟨s, .running debug⟩
    ⟨(run debug k s).final, if (run debug k s).ended = .halted then .idle else .running debug⟩)

/-- The invariant is kept by the host's operations as well as by a step, from every state that has it, and it alone
leaves `status` the six values. The canonical form of memory is the model's own, notes/assumptions/2.md. -/
def Obligations.HostOperationsKeepInvariant : Prop :=
  (∀ bytes start s t, s.Inv → hostLoad bytes start s = .next t → t.Inv) ∧
  (∀ addr value s t, s.Inv → hostWrite addr value s = .next t → t.Inv) ∧
  (∀ s, s.mem.wf = true → (resetCore s).Inv) ∧
  (∀ s : State, s.Inv → s.status ∈ [0x20#8, 0x21#8, 0x22#8, 0x23#8, 0xA0#8, 0xA1#8])
end

