-- ==== Sys2Proof/Laws/Decode.lean ====
section
/-! SUPPORT. The laws of decoding: a word and its two bytes, the opcode grid, and what each opcode byte calls for. -/

namespace Sys2Proof

/-! ### A word and its bytes -/

@[simp] theorem makeWord_high_low (w : Addr) : makeWord (highByte w) (lowByte w) = w := by
  apply BitVec.eq_of_toNat_eq
  have := w.isLt
  simp [makeWord, highByte, lowByte]
  omega

@[simp] theorem highByte_makeWord (hi lo : Byte) : highByte (makeWord hi lo) = hi := by
  apply BitVec.eq_of_toNat_eq
  have := hi.isLt
  have := lo.isLt
  simp [makeWord, highByte]
  omega

@[simp] theorem lowByte_makeWord (hi lo : Byte) : lowByte (makeWord hi lo) = lo := by
  apply BitVec.eq_of_toNat_eq
  have := hi.isLt
  have := lo.isLt
  simp [makeWord, lowByte]
  omega

theorem makeWord_toNat (hi lo : Byte) : (makeWord hi lo).toNat = hi.toNat * 256 + lo.toNat := by
  have := hi.isLt
  have := lo.isLt
  simp [makeWord]
  omega

/-! ### The grid -/

/-- The grid has 16 rows of 16 entries: the defaults of `opcodeEntry` are never taken. -/
theorem opcodeGrid_full : opcodeGrid.map List.length = List.replicate 16 16 := rfl

/-- What an entry's instruction encodes to, for every operand. -/
def Entry.EncodesFrom (op : Byte) : Entry → Prop
  | .imp i => i.opcode = op ∧ i.operandBytes = []
  | .imm make => ∀ b, (make b).opcode = op ∧ (make b).operandBytes = [b]
  | .zp make => ∀ b, (make b).opcode = op ∧ (make b).operandBytes = [b]
  | .abs make => ∀ w, (make w).opcode = op ∧ (make w).operandBytes = [lowByte w, highByte w]

/-- To show something of every byte, show it of the 256 numerals. -/
theorem byte_cases {P : Byte → Prop} (h : ∀ n < 256, P (BitVec.ofNat 8 n)) (op : Byte) : P op := by
  simpa using h op.toNat op.isLt

/-- The format of an entry has the length R60 gives its opcode. -/
theorem opcodeEntry_length (op : Byte) : (opcodeEntry op).length = lengthOfOpcode op := by
  revert op; decide

/-- The one fact about the grid: the entry of a byte makes instructions whose opcode is that byte, with the operand
bytes of the entry's format. -/
theorem opcodeEntry_encodes (op : Byte) : (opcodeEntry op).EncodesFrom op := by
  revert op
  apply byte_cases
  intro n hn
  interval_cases n
  all_goals first
    | exact (⟨rfl, rfl⟩ : _ ∧ _)
    | exact fun _ => ⟨rfl, rfl⟩

/-! The entries of the thirteen opcodes (R53). -/

@[simp] theorem opcodeEntry_lda : opcodeEntry 0xA9#8 = .imm .lda := rfl
@[simp] theorem opcodeEntry_ldx : opcodeEntry 0xA2#8 = .imm .ldx := rfl
@[simp] theorem opcodeEntry_ldy : opcodeEntry 0xA0#8 = .imm .ldy := rfl
@[simp] theorem opcodeEntry_staZp : opcodeEntry 0x85#8 = .zp .staZp := rfl
@[simp] theorem opcodeEntry_staAbs : opcodeEntry 0x8D#8 = .abs .staAbs := rfl
@[simp] theorem opcodeEntry_inx : opcodeEntry 0xE8#8 = .imp .inx := rfl
@[simp] theorem opcodeEntry_adc : opcodeEntry 0x69#8 = .imm .adc := rfl
@[simp] theorem opcodeEntry_sbc : opcodeEntry 0xE9#8 = .imm .sbc := rfl
@[simp] theorem opcodeEntry_pha : opcodeEntry 0x48#8 = .imp .pha := rfl
@[simp] theorem opcodeEntry_pla : opcodeEntry 0x68#8 = .imp .pla := rfl
@[simp] theorem opcodeEntry_jsr : opcodeEntry 0x20#8 = .abs .jsr := rfl
@[simp] theorem opcodeEntry_rts : opcodeEntry 0x60#8 = .imp .rts := rfl
@[simp] theorem opcodeEntry_brk : opcodeEntry 0x00#8 = .imp .brk := rfl

/-- The entry of an instruction's own opcode makes that instruction from its own operand. -/
theorem opcodeEntry_opcode (i : Instr) :
    (opcodeEntry i.opcode = .imp i ∧ i.operandBytes = []) ∨
    (∃ make b, opcodeEntry i.opcode = .imm make ∧ i = make b ∧ i.operandBytes = [b]) ∨
    (∃ make b, opcodeEntry i.opcode = .zp make ∧ i = make b ∧ i.operandBytes = [b]) ∨
    (∃ make w, opcodeEntry i.opcode = .abs make ∧ i = make w ∧ i.operandBytes = [lowByte w, highByte w]) := by
  cases i
  case lda b => exact .inr (.inl ⟨.lda, b, opcodeEntry_lda, rfl, rfl⟩)
  case ldx b => exact .inr (.inl ⟨.ldx, b, opcodeEntry_ldx, rfl, rfl⟩)
  case ldy b => exact .inr (.inl ⟨.ldy, b, opcodeEntry_ldy, rfl, rfl⟩)
  case adc b => exact .inr (.inl ⟨.adc, b, opcodeEntry_adc, rfl, rfl⟩)
  case sbc b => exact .inr (.inl ⟨.sbc, b, opcodeEntry_sbc, rfl, rfl⟩)
  case staZp b => exact .inr (.inr (.inl ⟨.staZp, b, opcodeEntry_staZp, rfl, rfl⟩))
  case staAbs w => exact .inr (.inr (.inr ⟨.staAbs, w, opcodeEntry_staAbs, rfl, rfl⟩))
  case jsr w => exact .inr (.inr (.inr ⟨.jsr, w, opcodeEntry_jsr, rfl, rfl⟩))
  all_goals exact .inl ⟨rfl, rfl⟩

/-- The thirteen opcode bytes of R53. -/
def recognisedBytes : List Byte :=
  [0xA9#8, 0xA2#8, 0xA0#8, 0x85#8, 0x8D#8, 0xE8#8, 0x69#8, 0xE9#8, 0x48#8, 0x68#8, 0x20#8, 0x60#8, 0x00#8]

/-- A byte outside the thirteen stands for an instruction without operand whose unknown byte it is. -/
theorem opcodeEntry_unknown {op : Byte} (h : op ∉ recognisedBytes) :
    ∃ i, opcodeEntry op = .imp i ∧ i.unknownByte = some op := by
  revert h
  revert op
  apply byte_cases
  intro n hn
  interval_cases n
  all_goals first
    | exact fun _ => ⟨_, rfl, rfl⟩
    | exact fun h => absurd (by decide) h

/-! ### Instructions, the 243 unknown ones taken together -/

/-- To show something of every instruction: the thirteen, and one with an unknown byte. -/
theorem Instr.cases_unknown {P : Instr → Prop} (lda : ∀ b, P (.lda b)) (ldx : ∀ b, P (.ldx b))
    (ldy : ∀ b, P (.ldy b)) (staZp : ∀ b, P (.staZp b)) (staAbs : ∀ w, P (.staAbs w)) (inx : P .inx)
    (adc : ∀ b, P (.adc b)) (sbc : ∀ b, P (.sbc b)) (pha : P .pha) (pla : P .pla) (jsr : ∀ w, P (.jsr w))
    (rts : P .rts) (brk : P .brk) (unknown : ∀ i op, i.unknownByte = some op → P i) (i : Instr) : P i := by
  cases i
  case lda b => exact lda b
  case ldx b => exact ldx b
  case ldy b => exact ldy b
  case staZp b => exact staZp b
  case staAbs w => exact staAbs w
  case inx => exact inx
  case adc b => exact adc b
  case sbc b => exact sbc b
  case pha => exact pha
  case pla => exact pla
  case jsr w => exact jsr w
  case rts => exact rts
  case brk => exact brk
  all_goals exact unknown _ _ rfl

/-- An unknown byte is the instruction's opcode, and none of the thirteen. -/
theorem Instr.opcode_of_unknownByte {i : Instr} {op : Byte} (h : i.unknownByte = some op) :
    i.opcode = op ∧ op ∉ recognisedBytes := by
  cases i
  all_goals first
    | exact ⟨Option.some.inj h, Option.some.inj h ▸ (of_decide_eq_true rfl : _ ∉ recognisedBytes)⟩
    | cases h

end Sys2Proof
end

