-- ==== Sys2Proof/Laws/Flags.lean ====
section
/-! SUPPORT. What the flag computations do to each status bit, and the sums they come from in closed form. -/

namespace Sys2Proof.Machine

/-- A byte whose bit 7 is set is not zero. -/
theorem ne_zero_of_bit7 {v : Byte} (h : v.getLsbD 7 = true) : v ≠ 0#8 := by
  rintro rfl; simp at h

/-- SetZN bit by bit (R75). -/
theorem setZN_bit (status v : Byte) (k : Nat) :
    (setZN status v).getLsbD k =
      if k = 1 then decide (v = 0#8) else if k = 7 then v.getLsbD 7 else status.getLsbD k := by
  by_cases hk : k < 8
  · unfold setZN
    by_cases h7 : v.getLsbD 7 = true <;> by_cases h0 : v = 0#8
    · exact absurd h0 (ne_zero_of_bit7 h7)
    all_goals
      simp only [h7, h0, maskN, maskZ]
      interval_cases k <;> simp
  · have hk' : 8 ≤ k := by omega
    rw [if_neg (by omega), if_neg (by omega), BitVec.getLsbD_of_ge _ _ hk', BitVec.getLsbD_of_ge _ _ hk']

/-- ADC's carry update bit by bit (R105). -/
theorem setCarry_bit (status : Byte) (c : Bool) (k : Nat) :
    (setCarry status c).getLsbD k = if k = 0 then c else status.getLsbD k := by
  by_cases hk : k < 8
  · cases c <;> simp only [setCarry, maskC] <;> interval_cases k <;> simp
  · have hk' : 8 ≤ k := by omega
    rw [if_neg (by omega), BitVec.getLsbD_of_ge _ _ hk', BitVec.getLsbD_of_ge _ _ hk']

/-! The three flags, in the form simp uses for one bit. -/

@[simp] theorem setZN_carry (st v : Byte) : (setZN st v)[0] = st[0] := by
  simpa using setZN_bit st v 0

@[simp] theorem setZN_zero (st v : Byte) : (setZN st v)[1] = decide (v = 0#8) := by
  simpa using setZN_bit st v 1

@[simp] theorem setZN_negative (st v : Byte) : (setZN st v)[7] = v[7] := by
  simpa using setZN_bit st v 7

@[simp] theorem setCarry_carry (st : Byte) (c : Bool) : (setCarry st c)[0] = c := by
  simpa using setCarry_bit st c 0

/-- Carry-in is Carry as a number (R5). -/
theorem carryIn_eq (status : Byte) : carryIn status = (status.getLsbD 0).toNat := by
  cases h : status.getLsbD 0 <;> simp only [carryIn, h] <;> rfl

theorem carryIn_le_one (status : Byte) : carryIn status ≤ 1 := by
  unfold carryIn; split <;> omega

/-- SBC's difference narrowed to a byte, as byte arithmetic (R107 b). -/
theorem sbcDifference_narrowed (a m : Byte) (c : Nat) :
    BitVec.ofInt 8 (sbcDifference a m c) = a - m - 1#8 + BitVec.ofNat 8 c := by
  apply BitVec.eq_of_toInt_eq
  simp [sbcDifference, BitVec.toInt_eq_toNat_bmod]
  congr 1
  omega

/-- ADC's sum narrowed to a byte, as byte arithmetic (R107 a). -/
theorem adcSum_narrowed (a m : Byte) (c : Nat) : BitVec.ofNat 8 (adcSum a m c) = a + m + BitVec.ofNat 8 c := by
  apply BitVec.eq_of_toNat_eq
  simp [adcSum]

end Sys2Proof.Machine
end

