-- ==== Sys2Proof/Laws/Memory.lean ====
section
/-! SUPPORT. The laws of the memory: a read after a write, what a write leaves alone, the canonical form, and the same
for a run of bytes and for the host's load. -/

namespace Sys2Proof.Machine.Memory

theorem lookup_insert_same (m : Memory) (a : Nat) (v : Byte) : lookup (insert m a v) a = some v := by
  induction m with
  | nil => simp [insert, lookup]
  | cons c m ih =>
    obtain ⟨k, u⟩ := c
    simp only [insert]
    split
    · simp [lookup]
    · split
      · simp [lookup]
      · rename_i h1 h2
        have : k ≠ a := fun h => h2 h.symm
        simp [lookup, this, ih]

theorem lookup_insert_other (m : Memory) {a b : Nat} (v : Byte) (h : b ≠ a) :
    lookup (insert m a v) b = lookup m b := by
  induction m with
  | nil => simp [insert, lookup, h.symm]
  | cons c m ih =>
    obtain ⟨k, u⟩ := c
    simp only [insert]
    split
    · simp [lookup, h.symm]
    · split
      · rename_i h1 h2
        subst h2
        simp [lookup, h.symm]
      · simp only [lookup, ih]

/-- A read after a write to the same address gives the byte written. -/
@[simp] theorem read_write_same (m : Memory) (a : Addr) (v : Byte) : (m.write a v).read a = v := by
  simp [read, write, lookup_insert_same]

/-- A write leaves every other address alone. -/
theorem read_write_other (m : Memory) {a b : Addr} (v : Byte) (h : b ≠ a) : (m.write a v).read b = m.read b := by
  have : b.toNat ≠ a.toNat := fun e => h (BitVec.eq_of_toNat_eq e)
  simp [read, write, lookup_insert_other m v this]

/-- A read after a write, for any two addresses. -/
theorem read_write (m : Memory) (a b : Addr) (v : Byte) :
    (m.write a v).read b = if b = a then v else m.read b := by
  split
  · rename_i h; subst h; simp
  · rename_i h; exact read_write_other m v h

/-- Memory that lists nothing reads as MEM_INIT. -/
@[simp] theorem read_nil (a : Addr) : read [] a = Config.memInit a := rfl

/-- The word at two addresses as a number (R33). -/
theorem readWord_toNat (m : Memory) (lo hi : Addr) :
    (m.readWord lo hi).toNat = (m.read hi).toNat * 256 + (m.read lo).toNat :=
  makeWord_toNat _ _

theorem risingFrom_insert {m : Memory} {lo a : Nat} (v : Byte) (h : risingFrom lo m = true) (hlo : lo ≤ a)
    (ha : a < Config.memSize) : risingFrom lo (insert m a v) = true := by
  induction m generalizing lo with
  | nil => simp [insert, risingFrom, hlo, ha]
  | cons c m ih =>
    obtain ⟨k, u⟩ := c
    simp only [risingFrom, Bool.and_eq_true, decide_eq_true_eq] at h
    obtain ⟨⟨h1, h2⟩, h3⟩ := h
    simp only [insert]
    split
    · rename_i hk
      simp only [risingFrom, Bool.and_eq_true, decide_eq_true_eq]
      exact ⟨⟨hlo, ha⟩, ⟨⟨hk, h2⟩, h3⟩⟩
    · split
      · rename_i hk
        subst hk
        simp only [risingFrom, Bool.and_eq_true, decide_eq_true_eq]
        exact ⟨⟨hlo, ha⟩, h3⟩
      · rename_i hk1 hk2
        simp only [risingFrom, Bool.and_eq_true, decide_eq_true_eq]
        exact ⟨⟨h1, h2⟩, ih h3 (by omega)⟩

/-- A write keeps the canonical form. -/
theorem wf_write {m : Memory} (a : Addr) (v : Byte) (h : m.wf = true) : (m.write a v).wf = true :=
  risingFrom_insert v h (Nat.zero_le _) a.isLt

/-- Empty memory has the canonical form. -/
theorem wf_nil : wf [] = true := rfl

/-- Writing bytes one after the other keeps the canonical form. -/
theorem wf_writeBytes (bs : List Byte) {m : Memory} (a : Addr) (h : m.wf = true) : (m.writeBytes a bs).wf = true := by
  induction bs generalizing m a with
  | nil => exact h
  | cons b bs ih => exact ih (a + 1#16) (wf_write a b h)

/-- A load keeps the canonical form. -/
theorem wf_load {m : Memory} (start : Addr) (bs : List Byte) (h : m.wf = true) : (m.load start bs).wf = true :=
  wf_write _ _ (wf_write _ _ (wf_writeBytes bs start h))

/-- Writing bytes leaves alone every address that none of them goes to. -/
theorem read_writeBytes_other (bs : List Byte) (m : Memory) (a b : Addr)
    (h : ∀ k < bs.length, b ≠ a + BitVec.ofNat 16 k) : (m.writeBytes a bs).read b = m.read b := by
  induction bs generalizing m a with
  | nil => rfl
  | cons c bs ih =>
    have h0 : b ≠ a := by simpa using h 0 (by simp)
    rw [writeBytes, ih (m.write a c) (a + 1#16), read_write_other m c h0]
    intro k hk e
    refine h (k + 1) (by simpa using hk) (e.trans ?_)
    rw [BitVec.add_assoc]
    congr 1
    apply BitVec.eq_of_toNat_eq
    simp [Nat.add_comm]

/-- The byte at position `k` of bytes written from `a` on is read back at `a + k`. -/
theorem read_writeBytes (bs : List Byte) (m : Memory) (a : Addr) (k : Nat) (hk : k < bs.length)
    (hlen : bs.length ≤ 65536) : (m.writeBytes a bs).read (a + BitVec.ofNat 16 k) = bs[k] := by
  induction bs generalizing m a k with
  | nil => simp at hk
  | cons c bs ih =>
    have hl : bs.length + 1 ≤ 65536 := by simpa using hlen
    cases k with
    | zero =>
      rw [writeBytes, read_writeBytes_other]
      · simp
      · intro j hj e
        have := congrArg BitVec.toNat e
        simp at this
        have h2 := a.isLt
        omega
    | succ k =>
      have e : a + BitVec.ofNat 16 (k + 1) = (a + 1#16) + BitVec.ofNat 16 k := by
        rw [BitVec.add_assoc]
        congr 1
        apply BitVec.eq_of_toNat_eq
        simp [Nat.add_comm]
      rw [writeBytes, e, ih (m.write a c) (a + 1#16) k (by simpa using hk) (by omega)]
      simp

end Sys2Proof.Machine.Memory
end

