-- ==== Sys2Proof/Laws/State.lean ====
section
/-! SUPPORT. What each update of the state does to each field: one lemma per field per update, true by rfl, so that no
later proof unfolds a record update. -/

namespace Sys2Proof.Machine

@[simp] theorem State.setA_a (s : State) (v : Byte) : (s.setA v).a = v := rfl
@[simp] theorem State.setA_x (s : State) (v : Byte) : (s.setA v).x = s.x := rfl
@[simp] theorem State.setA_y (s : State) (v : Byte) : (s.setA v).y = s.y := rfl
@[simp] theorem State.setA_sp (s : State) (v : Byte) : (s.setA v).sp = s.sp := rfl
@[simp] theorem State.setA_pc (s : State) (v : Byte) : (s.setA v).pc = s.pc := rfl
@[simp] theorem State.setA_status (s : State) (v : Byte) : (s.setA v).status = s.status := rfl
@[simp] theorem State.setA_mem (s : State) (v : Byte) : (s.setA v).mem = s.mem := rfl
@[simp] theorem State.setA_outcome (s : State) (v : Byte) : (s.setA v).outcome = s.outcome := rfl
@[simp] theorem State.setA_report (s : State) (v : Byte) : (s.setA v).report = s.report := rfl

@[simp] theorem State.setX_a (s : State) (v : Byte) : (s.setX v).a = s.a := rfl
@[simp] theorem State.setX_x (s : State) (v : Byte) : (s.setX v).x = v := rfl
@[simp] theorem State.setX_y (s : State) (v : Byte) : (s.setX v).y = s.y := rfl
@[simp] theorem State.setX_sp (s : State) (v : Byte) : (s.setX v).sp = s.sp := rfl
@[simp] theorem State.setX_pc (s : State) (v : Byte) : (s.setX v).pc = s.pc := rfl
@[simp] theorem State.setX_status (s : State) (v : Byte) : (s.setX v).status = s.status := rfl
@[simp] theorem State.setX_mem (s : State) (v : Byte) : (s.setX v).mem = s.mem := rfl
@[simp] theorem State.setX_outcome (s : State) (v : Byte) : (s.setX v).outcome = s.outcome := rfl
@[simp] theorem State.setX_report (s : State) (v : Byte) : (s.setX v).report = s.report := rfl

@[simp] theorem State.setY_a (s : State) (v : Byte) : (s.setY v).a = s.a := rfl
@[simp] theorem State.setY_x (s : State) (v : Byte) : (s.setY v).x = s.x := rfl
@[simp] theorem State.setY_y (s : State) (v : Byte) : (s.setY v).y = v := rfl
@[simp] theorem State.setY_sp (s : State) (v : Byte) : (s.setY v).sp = s.sp := rfl
@[simp] theorem State.setY_pc (s : State) (v : Byte) : (s.setY v).pc = s.pc := rfl
@[simp] theorem State.setY_status (s : State) (v : Byte) : (s.setY v).status = s.status := rfl
@[simp] theorem State.setY_mem (s : State) (v : Byte) : (s.setY v).mem = s.mem := rfl
@[simp] theorem State.setY_outcome (s : State) (v : Byte) : (s.setY v).outcome = s.outcome := rfl
@[simp] theorem State.setY_report (s : State) (v : Byte) : (s.setY v).report = s.report := rfl

@[simp] theorem State.setSp_a (s : State) (v : Byte) : (s.setSp v).a = s.a := rfl
@[simp] theorem State.setSp_x (s : State) (v : Byte) : (s.setSp v).x = s.x := rfl
@[simp] theorem State.setSp_y (s : State) (v : Byte) : (s.setSp v).y = s.y := rfl
@[simp] theorem State.setSp_sp (s : State) (v : Byte) : (s.setSp v).sp = v := rfl
@[simp] theorem State.setSp_pc (s : State) (v : Byte) : (s.setSp v).pc = s.pc := rfl
@[simp] theorem State.setSp_status (s : State) (v : Byte) : (s.setSp v).status = s.status := rfl
@[simp] theorem State.setSp_mem (s : State) (v : Byte) : (s.setSp v).mem = s.mem := rfl
@[simp] theorem State.setSp_outcome (s : State) (v : Byte) : (s.setSp v).outcome = s.outcome := rfl
@[simp] theorem State.setSp_report (s : State) (v : Byte) : (s.setSp v).report = s.report := rfl

@[simp] theorem State.setPc_a (s : State) (v : Addr) : (s.setPc v).a = s.a := rfl
@[simp] theorem State.setPc_x (s : State) (v : Addr) : (s.setPc v).x = s.x := rfl
@[simp] theorem State.setPc_y (s : State) (v : Addr) : (s.setPc v).y = s.y := rfl
@[simp] theorem State.setPc_sp (s : State) (v : Addr) : (s.setPc v).sp = s.sp := rfl
@[simp] theorem State.setPc_pc (s : State) (v : Addr) : (s.setPc v).pc = v := rfl
@[simp] theorem State.setPc_status (s : State) (v : Addr) : (s.setPc v).status = s.status := rfl
@[simp] theorem State.setPc_mem (s : State) (v : Addr) : (s.setPc v).mem = s.mem := rfl
@[simp] theorem State.setPc_outcome (s : State) (v : Addr) : (s.setPc v).outcome = s.outcome := rfl
@[simp] theorem State.setPc_report (s : State) (v : Addr) : (s.setPc v).report = s.report := rfl

@[simp] theorem State.setStatus_a (s : State) (v : Byte) : (s.setStatus v).a = s.a := rfl
@[simp] theorem State.setStatus_x (s : State) (v : Byte) : (s.setStatus v).x = s.x := rfl
@[simp] theorem State.setStatus_y (s : State) (v : Byte) : (s.setStatus v).y = s.y := rfl
@[simp] theorem State.setStatus_sp (s : State) (v : Byte) : (s.setStatus v).sp = s.sp := rfl
@[simp] theorem State.setStatus_pc (s : State) (v : Byte) : (s.setStatus v).pc = s.pc := rfl
@[simp] theorem State.setStatus_status (s : State) (v : Byte) : (s.setStatus v).status = v := rfl
@[simp] theorem State.setStatus_mem (s : State) (v : Byte) : (s.setStatus v).mem = s.mem := rfl
@[simp] theorem State.setStatus_outcome (s : State) (v : Byte) : (s.setStatus v).outcome = s.outcome := rfl
@[simp] theorem State.setStatus_report (s : State) (v : Byte) : (s.setStatus v).report = s.report := rfl

@[simp] theorem State.setMem_a (s : State) (v : Memory) : (s.setMem v).a = s.a := rfl
@[simp] theorem State.setMem_x (s : State) (v : Memory) : (s.setMem v).x = s.x := rfl
@[simp] theorem State.setMem_y (s : State) (v : Memory) : (s.setMem v).y = s.y := rfl
@[simp] theorem State.setMem_sp (s : State) (v : Memory) : (s.setMem v).sp = s.sp := rfl
@[simp] theorem State.setMem_pc (s : State) (v : Memory) : (s.setMem v).pc = s.pc := rfl
@[simp] theorem State.setMem_status (s : State) (v : Memory) : (s.setMem v).status = s.status := rfl
@[simp] theorem State.setMem_mem (s : State) (v : Memory) : (s.setMem v).mem = v := rfl
@[simp] theorem State.setMem_outcome (s : State) (v : Memory) : (s.setMem v).outcome = s.outcome := rfl
@[simp] theorem State.setMem_report (s : State) (v : Memory) : (s.setMem v).report = s.report := rfl

@[simp] theorem State.setOutput_a (s : State) (o : Option StepOutcome) (r : Option Byte) :
    (s.setOutput o r).a = s.a := rfl
@[simp] theorem State.setOutput_x (s : State) (o : Option StepOutcome) (r : Option Byte) :
    (s.setOutput o r).x = s.x := rfl
@[simp] theorem State.setOutput_y (s : State) (o : Option StepOutcome) (r : Option Byte) :
    (s.setOutput o r).y = s.y := rfl
@[simp] theorem State.setOutput_sp (s : State) (o : Option StepOutcome) (r : Option Byte) :
    (s.setOutput o r).sp = s.sp := rfl
@[simp] theorem State.setOutput_pc (s : State) (o : Option StepOutcome) (r : Option Byte) :
    (s.setOutput o r).pc = s.pc := rfl
@[simp] theorem State.setOutput_status (s : State) (o : Option StepOutcome) (r : Option Byte) :
    (s.setOutput o r).status = s.status := rfl
@[simp] theorem State.setOutput_mem (s : State) (o : Option StepOutcome) (r : Option Byte) :
    (s.setOutput o r).mem = s.mem := rfl
@[simp] theorem State.setOutput_outcome (s : State) (o : Option StepOutcome) (r : Option Byte) :
    (s.setOutput o r).outcome = o := rfl
@[simp] theorem State.setOutput_report (s : State) (o : Option StepOutcome) (r : Option Byte) :
    (s.setOutput o r).report = r := rfl

@[simp] theorem State.memWrite_a (s : State) (a : Addr) (v : Byte) :
    (s.memWrite a v).a = s.a := rfl
@[simp] theorem State.memWrite_x (s : State) (a : Addr) (v : Byte) :
    (s.memWrite a v).x = s.x := rfl
@[simp] theorem State.memWrite_y (s : State) (a : Addr) (v : Byte) :
    (s.memWrite a v).y = s.y := rfl
@[simp] theorem State.memWrite_sp (s : State) (a : Addr) (v : Byte) :
    (s.memWrite a v).sp = s.sp := rfl
@[simp] theorem State.memWrite_pc (s : State) (a : Addr) (v : Byte) :
    (s.memWrite a v).pc = s.pc := rfl
@[simp] theorem State.memWrite_status (s : State) (a : Addr) (v : Byte) :
    (s.memWrite a v).status = s.status := rfl
@[simp] theorem State.memWrite_mem (s : State) (a : Addr) (v : Byte) :
    (s.memWrite a v).mem = s.mem.write a v := rfl
@[simp] theorem State.memWrite_outcome (s : State) (a : Addr) (v : Byte) :
    (s.memWrite a v).outcome = s.outcome := rfl
@[simp] theorem State.memWrite_report (s : State) (a : Addr) (v : Byte) :
    (s.memWrite a v).report = s.report := rfl

@[simp] theorem State.setZN_a (s : State) (v : Byte) :
    (s.setZN v).a = s.a := rfl
@[simp] theorem State.setZN_x (s : State) (v : Byte) :
    (s.setZN v).x = s.x := rfl
@[simp] theorem State.setZN_y (s : State) (v : Byte) :
    (s.setZN v).y = s.y := rfl
@[simp] theorem State.setZN_sp (s : State) (v : Byte) :
    (s.setZN v).sp = s.sp := rfl
@[simp] theorem State.setZN_pc (s : State) (v : Byte) :
    (s.setZN v).pc = s.pc := rfl
@[simp] theorem State.setZN_status (s : State) (v : Byte) :
    (s.setZN v).status = Machine.setZN s.status v := rfl
@[simp] theorem State.setZN_mem (s : State) (v : Byte) :
    (s.setZN v).mem = s.mem := rfl
@[simp] theorem State.setZN_outcome (s : State) (v : Byte) :
    (s.setZN v).outcome = s.outcome := rfl
@[simp] theorem State.setZN_report (s : State) (v : Byte) :
    (s.setZN v).report = s.report := rfl

@[simp] theorem State.continued_a (s : State) (op : Byte) :
    (s.continued op).a = s.a := rfl
@[simp] theorem State.continued_x (s : State) (op : Byte) :
    (s.continued op).x = s.x := rfl
@[simp] theorem State.continued_y (s : State) (op : Byte) :
    (s.continued op).y = s.y := rfl
@[simp] theorem State.continued_sp (s : State) (op : Byte) :
    (s.continued op).sp = s.sp := rfl
@[simp] theorem State.continued_pc (s : State) (op : Byte) :
    (s.continued op).pc = s.pc := rfl
@[simp] theorem State.continued_status (s : State) (op : Byte) :
    (s.continued op).status = s.status := rfl
@[simp] theorem State.continued_mem (s : State) (op : Byte) :
    (s.continued op).mem = s.mem := rfl
@[simp] theorem State.continued_outcome (s : State) (op : Byte) :
    (s.continued op).outcome = some (.continued (Config.cycles op).val) := rfl
@[simp] theorem State.continued_report (s : State) (op : Byte) :
    (s.continued op).report = none := rfl

@[simp] theorem State.halted_a (s : State) :
    (s.halted).a = s.a := rfl
@[simp] theorem State.halted_x (s : State) :
    (s.halted).x = s.x := rfl
@[simp] theorem State.halted_y (s : State) :
    (s.halted).y = s.y := rfl
@[simp] theorem State.halted_sp (s : State) :
    (s.halted).sp = s.sp := rfl
@[simp] theorem State.halted_pc (s : State) :
    (s.halted).pc = s.pc := rfl
@[simp] theorem State.halted_status (s : State) :
    (s.halted).status = s.status := rfl
@[simp] theorem State.halted_mem (s : State) :
    (s.halted).mem = s.mem := rfl
@[simp] theorem State.halted_outcome (s : State) :
    (s.halted).outcome = some .halt := rfl
@[simp] theorem State.halted_report (s : State) :
    (s.halted).report = none := rfl

@[simp] theorem State.reported_a (s : State) (op : Byte) :
    (s.reported op).a = s.a := rfl
@[simp] theorem State.reported_x (s : State) (op : Byte) :
    (s.reported op).x = s.x := rfl
@[simp] theorem State.reported_y (s : State) (op : Byte) :
    (s.reported op).y = s.y := rfl
@[simp] theorem State.reported_sp (s : State) (op : Byte) :
    (s.reported op).sp = s.sp := rfl
@[simp] theorem State.reported_pc (s : State) (op : Byte) :
    (s.reported op).pc = s.pc := rfl
@[simp] theorem State.reported_status (s : State) (op : Byte) :
    (s.reported op).status = s.status := rfl
@[simp] theorem State.reported_mem (s : State) (op : Byte) :
    (s.reported op).mem = s.mem := rfl
@[simp] theorem State.reported_outcome (s : State) (op : Byte) :
    (s.reported op).outcome = some (.continued 2) := rfl
@[simp] theorem State.reported_report (s : State) (op : Byte) :
    (s.reported op).report = some op := rfl

@[simp] theorem resetCore_a (s : State) : (resetCore s).a = 0x00#8 := rfl
@[simp] theorem resetCore_x (s : State) : (resetCore s).x = 0x00#8 := rfl
@[simp] theorem resetCore_y (s : State) : (resetCore s).y = 0x00#8 := rfl
@[simp] theorem resetCore_sp (s : State) : (resetCore s).sp = 0xFD#8 := rfl
@[simp] theorem resetCore_pc (s : State) : (resetCore s).pc = s.mem.readWord 0xFFFC#16 0xFFFD#16 := rfl
@[simp] theorem resetCore_status (s : State) : (resetCore s).status = 0x20#8 := rfl
@[simp] theorem resetCore_mem (s : State) : (resetCore s).mem = s.mem := rfl
@[simp] theorem resetCore_outcome (s : State) : (resetCore s).outcome = none := rfl
@[simp] theorem resetCore_report (s : State) : (resetCore s).report = none := rfl

/-- A read through any state is a read of its memory. -/
theorem State.memRead_eq (s : State) (a : Addr) : s.memRead a = s.mem.read a := rfl

/-- Two states with the same fields are the same state. -/
theorem State.eq_of_fields {s t : State} (ha : s.a = t.a) (hx : s.x = t.x) (hy : s.y = t.y) (hsp : s.sp = t.sp)
    (hpc : s.pc = t.pc) (hst : s.status = t.status) (hm : s.mem = t.mem) (ho : s.outcome = t.outcome)
    (hr : s.report = t.report) : s = t := by
  cases s; cases t; simp_all

/-- `State.reset` is the reset operation on a machine with nothing loaded (R150, R24). -/
theorem State.reset_eq_resetCore : resetCore State.reset = State.reset := rfl

end Sys2Proof.Machine
end

