-- ==== Sys2Proof/Laws/Ops.lean ====
section
/-! SUPPORT. What each shared operation does, in closed form, so that no later proof unfolds it. -/

namespace Sys2Proof.Machine

/-! ### Fetch -/

@[simp] theorem fetchByte_fst (s : State) : (fetchByte s).1 = s.mem.read s.pc := rfl

@[simp] theorem fetchByte_snd (s : State) : (fetchByte s).2 = s.setPc (s.pc + 1#16) := rfl

@[simp] theorem State.setPc_setPc (s : State) (v w : Addr) : (s.setPc v).setPc w = s.setPc w := rfl

@[simp] theorem fetchWord_fst (s : State) :
    (fetchWord s).1 = makeWord (s.mem.read (s.pc + 1#16)) (s.mem.read s.pc) := rfl

@[simp] theorem fetchWord_snd (s : State) : (fetchWord s).2 = s.setPc (s.pc + 2#16) := by
  simp [fetchWord, BitVec.add_assoc]

/-! ### The state after reset -/

/-- Right after reset with nothing loaded, `pc` is the word of two MEM_INIT bytes (R154). -/
theorem State.reset_pc : State.reset.pc = makeWord (Config.memInit 0xFFFD#16) (Config.memInit 0xFFFC#16) := by
  simp [State.reset, Memory.readWord, Config.resetVectorLow, Config.resetVectorHigh]

/-! ### Addresses -/

theorem stackAddr_toNat (sp : Byte) : (stackAddr sp).toNat = 256 + sp.toNat := by
  have := sp.isLt
  simp [stackAddr, Config.stackBase]
  omega

/-- Different stack pointers designate different cells. -/
theorem stackAddr_ne {p q : Byte} (h : p ≠ q) : stackAddr p ≠ stackAddr q := by
  intro e
  have := congrArg BitVec.toNat e
  rw [stackAddr_toNat, stackAddr_toNat] at this
  exact h (BitVec.eq_of_toNat_eq (by omega))

theorem zeroPageAddr_toNat (zp : Byte) : (zeroPageAddr zp).toNat = zp.toNat := by
  have := zp.isLt
  simp [zeroPageAddr]
  omega

/-! ### Push -/

@[simp] theorem push_a (v : Byte) (s : State) : (push v s).a = s.a := rfl
@[simp] theorem push_x (v : Byte) (s : State) : (push v s).x = s.x := rfl
@[simp] theorem push_y (v : Byte) (s : State) : (push v s).y = s.y := rfl
@[simp] theorem push_sp (v : Byte) (s : State) : (push v s).sp = s.sp - 1#8 := rfl
@[simp] theorem push_pc (v : Byte) (s : State) : (push v s).pc = s.pc := rfl
@[simp] theorem push_status (v : Byte) (s : State) : (push v s).status = s.status := rfl
@[simp] theorem push_mem (v : Byte) (s : State) : (push v s).mem = s.mem.write (stackAddr s.sp) v := rfl
@[simp] theorem push_outcome (v : Byte) (s : State) : (push v s).outcome = s.outcome := rfl
@[simp] theorem push_report (v : Byte) (s : State) : (push v s).report = s.report := rfl

/-! ### Pop -/

@[simp] theorem pop_fst (s : State) : (pop s).1 = s.mem.read (stackAddr (s.sp + 1#8)) := rfl

@[simp] theorem pop_snd (s : State) : (pop s).2 = s.setSp (s.sp + 1#8) := rfl

end Sys2Proof.Machine
end

