-- ==== Sys2Proof/Laws/Exec.lean ====
section
/-! SUPPORT. What `exec` does: the meaning of each of the thirteen instructions and, in one lemma, of the 243 unknown
opcodes; and the inversion lemma from which whole-machine facts are derived. -/

namespace Sys2Proof.Machine

/-- Every instruction with an unknown byte runs the one shared operation on that byte. -/
theorem exec_of_unknownByte {i : Instr} {op : Byte} (h : i.unknownByte = some op) (s : State) :
    exec i s = unknownOpcode op s := by
  cases i
  all_goals first
    | exact Option.some.inj h ▸ rfl
    | cases h

/-- Everything `exec` can do: if it answers a next state, one of these cases holds. -/
theorem exec_next_cases {i : Instr} {s t : State} (h : exec i s = .next t) :
    (∃ b, i = .lda b ∧ t = ((s.setA b).setZN b).continued 0xA9#8) ∨
    (∃ b, i = .ldx b ∧ t = ((s.setX b).setZN b).continued 0xA2#8) ∨
    (∃ b, i = .ldy b ∧ t = ((s.setY b).setZN b).continued 0xA0#8) ∨
    (∃ b, i = .staZp b ∧ t = (s.memWrite (zeroPageAddr b) s.a).continued 0x85#8) ∨
    (∃ w, i = .staAbs w ∧ t = (s.memWrite (absoluteAddr w) s.a).continued 0x8D#8) ∨
    (i = .inx ∧ t = ((s.setX (s.x + 1#8)).setZN (s.x + 1#8)).continued 0xE8#8) ∨
    (∃ b, i = .adc b ∧ t =
      (((s.setStatus (setCarry s.status (decide (adcSum s.a b (carryIn s.status) > 255)))).setA
        (BitVec.ofNat 8 (adcSum s.a b (carryIn s.status)))).setZN
          (BitVec.ofNat 8 (adcSum s.a b (carryIn s.status)))).continued 0x69#8) ∨
    (∃ b, i = .sbc b ∧ t =
      ((s.setA (BitVec.ofInt 8 (sbcDifference s.a b (carryIn s.status)))).setZN
        (BitVec.ofInt 8 (sbcDifference s.a b (carryIn s.status)))).continued 0xE9#8) ∨
    (i = .pha ∧ t = (push s.a s).continued 0x48#8) ∨
    (i = .pla ∧ t = (((pop s).2.setA (pop s).1).setZN (pop s).1).continued 0x68#8) ∨
    (∃ w, i = .jsr w ∧ t =
      ((push (lowByte (s.pc - 1#16)) (push (highByte (s.pc - 1#16)) s)).setPc w).continued 0x20#8) ∨
    (i = .rts ∧ t =
      ((pop (pop s).2).2.setPc (makeWord (pop (pop s).2).1 (pop s).1 + 1#16)).continued 0x60#8) ∨
    (i = .brk ∧ t = s.halted) ∨
    (∃ op, i.unknownByte = some op ∧ t = s.reported op) := by
  induction i using Instr.cases_unknown
  case lda b => exact .inl ⟨b, rfl, (Host.Outcome.next.inj h).symm⟩
  case ldx b => exact .inr (.inl ⟨b, rfl, (Host.Outcome.next.inj h).symm⟩)
  case ldy b => exact .inr (.inr (.inl ⟨b, rfl, (Host.Outcome.next.inj h).symm⟩))
  case staZp b => exact .inr (.inr (.inr (.inl ⟨b, rfl, (Host.Outcome.next.inj h).symm⟩)))
  case staAbs w => exact .inr (.inr (.inr (.inr (.inl ⟨w, rfl, (Host.Outcome.next.inj h).symm⟩))))
  case inx => exact .inr (.inr (.inr (.inr (.inr (.inl ⟨rfl, (Host.Outcome.next.inj h).symm⟩)))))
  case adc b => exact .inr (.inr (.inr (.inr (.inr (.inr (.inl ⟨b, rfl, (Host.Outcome.next.inj h).symm⟩))))))
  case sbc b =>
    exact .inr (.inr (.inr (.inr (.inr (.inr (.inr (.inl ⟨b, rfl, (Host.Outcome.next.inj h).symm⟩)))))))
  case pha =>
    exact .inr (.inr (.inr (.inr (.inr (.inr (.inr (.inr (.inl ⟨rfl, (Host.Outcome.next.inj h).symm⟩))))))))
  case pla =>
    exact .inr (.inr (.inr (.inr (.inr (.inr (.inr (.inr (.inr (.inl
      ⟨rfl, (Host.Outcome.next.inj h).symm⟩)))))))))
  case jsr w =>
    exact .inr (.inr (.inr (.inr (.inr (.inr (.inr (.inr (.inr (.inr (.inl
      ⟨w, rfl, (Host.Outcome.next.inj h).symm⟩))))))))))
  case rts =>
    exact .inr (.inr (.inr (.inr (.inr (.inr (.inr (.inr (.inr (.inr (.inr (.inl
      ⟨rfl, (Host.Outcome.next.inj h).symm⟩)))))))))))
  case brk =>
    exact .inr (.inr (.inr (.inr (.inr (.inr (.inr (.inr (.inr (.inr (.inr (.inr (.inl
      ⟨rfl, (Host.Outcome.next.inj h).symm⟩))))))))))))
  case unknown i op hop =>
    rw [exec_of_unknownByte hop] at h
    exact .inr (.inr (.inr (.inr (.inr (.inr (.inr (.inr (.inr (.inr (.inr (.inr (.inr
      ⟨op, hop, (Host.Outcome.next.inj h).symm⟩))))))))))))

end Sys2Proof.Machine
end

