-- ==== Sys2Proof/Laws/PerInstr.lean ====
section
/-! SUPPORT. Laws of instructions as syntax, one lemma per constructor. -/

/-- The encoding of an instruction is its opcode byte and as many bytes after it as R60 gives that opcode. -/
def Sys2Proof.Laws.EncodedLength.Statement (i : Sys2Proof.Instr) : Prop :=
  (Sys2Proof.encode i).head? = some i.opcode ∧
  (Sys2Proof.encode i).length = Sys2Proof.lengthOfOpcode i.opcode

namespace Sys2Proof.Laws

theorem EncodedLength.lda (imm : Byte) : EncodedLength.Statement (.lda imm) := ⟨rfl, rfl⟩
theorem EncodedLength.ldx (imm : Byte) : EncodedLength.Statement (.ldx imm) := ⟨rfl, rfl⟩
theorem EncodedLength.ldy (imm : Byte) : EncodedLength.Statement (.ldy imm) := ⟨rfl, rfl⟩
theorem EncodedLength.staZp (zp : Byte) : EncodedLength.Statement (.staZp zp) := ⟨rfl, rfl⟩
theorem EncodedLength.staAbs (addr : Addr) : EncodedLength.Statement (.staAbs addr) := ⟨rfl, rfl⟩
theorem EncodedLength.inx : EncodedLength.Statement .inx := ⟨rfl, rfl⟩
theorem EncodedLength.adc (imm : Byte) : EncodedLength.Statement (.adc imm) := ⟨rfl, rfl⟩
theorem EncodedLength.sbc (imm : Byte) : EncodedLength.Statement (.sbc imm) := ⟨rfl, rfl⟩
theorem EncodedLength.pha : EncodedLength.Statement .pha := ⟨rfl, rfl⟩
theorem EncodedLength.pla : EncodedLength.Statement .pla := ⟨rfl, rfl⟩
theorem EncodedLength.jsr (target : Addr) : EncodedLength.Statement (.jsr target) := ⟨rfl, rfl⟩
theorem EncodedLength.rts : EncodedLength.Statement .rts := ⟨rfl, rfl⟩
theorem EncodedLength.brk : EncodedLength.Statement .brk := ⟨rfl, rfl⟩
theorem EncodedLength.unknown01 : EncodedLength.Statement .unknown01 := ⟨rfl, rfl⟩
theorem EncodedLength.unknown02 : EncodedLength.Statement .unknown02 := ⟨rfl, rfl⟩
theorem EncodedLength.unknown03 : EncodedLength.Statement .unknown03 := ⟨rfl, rfl⟩
theorem EncodedLength.unknown04 : EncodedLength.Statement .unknown04 := ⟨rfl, rfl⟩
theorem EncodedLength.unknown05 : EncodedLength.Statement .unknown05 := ⟨rfl, rfl⟩
theorem EncodedLength.unknown06 : EncodedLength.Statement .unknown06 := ⟨rfl, rfl⟩
theorem EncodedLength.unknown07 : EncodedLength.Statement .unknown07 := ⟨rfl, rfl⟩
theorem EncodedLength.unknown08 : EncodedLength.Statement .unknown08 := ⟨rfl, rfl⟩
theorem EncodedLength.unknown09 : EncodedLength.Statement .unknown09 := ⟨rfl, rfl⟩
theorem EncodedLength.unknown0A : EncodedLength.Statement .unknown0A := ⟨rfl, rfl⟩
theorem EncodedLength.unknown0B : EncodedLength.Statement .unknown0B := ⟨rfl, rfl⟩
theorem EncodedLength.unknown0C : EncodedLength.Statement .unknown0C := ⟨rfl, rfl⟩
theorem EncodedLength.unknown0D : EncodedLength.Statement .unknown0D := ⟨rfl, rfl⟩
theorem EncodedLength.unknown0E : EncodedLength.Statement .unknown0E := ⟨rfl, rfl⟩
theorem EncodedLength.unknown0F : EncodedLength.Statement .unknown0F := ⟨rfl, rfl⟩
theorem EncodedLength.unknown10 : EncodedLength.Statement .unknown10 := ⟨rfl, rfl⟩
theorem EncodedLength.unknown11 : EncodedLength.Statement .unknown11 := ⟨rfl, rfl⟩
theorem EncodedLength.unknown12 : EncodedLength.Statement .unknown12 := ⟨rfl, rfl⟩
theorem EncodedLength.unknown13 : EncodedLength.Statement .unknown13 := ⟨rfl, rfl⟩
theorem EncodedLength.unknown14 : EncodedLength.Statement .unknown14 := ⟨rfl, rfl⟩
theorem EncodedLength.unknown15 : EncodedLength.Statement .unknown15 := ⟨rfl, rfl⟩
theorem EncodedLength.unknown16 : EncodedLength.Statement .unknown16 := ⟨rfl, rfl⟩
theorem EncodedLength.unknown17 : EncodedLength.Statement .unknown17 := ⟨rfl, rfl⟩
theorem EncodedLength.unknown18 : EncodedLength.Statement .unknown18 := ⟨rfl, rfl⟩
theorem EncodedLength.unknown19 : EncodedLength.Statement .unknown19 := ⟨rfl, rfl⟩
theorem EncodedLength.unknown1A : EncodedLength.Statement .unknown1A := ⟨rfl, rfl⟩
theorem EncodedLength.unknown1B : EncodedLength.Statement .unknown1B := ⟨rfl, rfl⟩
theorem EncodedLength.unknown1C : EncodedLength.Statement .unknown1C := ⟨rfl, rfl⟩
theorem EncodedLength.unknown1D : EncodedLength.Statement .unknown1D := ⟨rfl, rfl⟩
theorem EncodedLength.unknown1E : EncodedLength.Statement .unknown1E := ⟨rfl, rfl⟩
theorem EncodedLength.unknown1F : EncodedLength.Statement .unknown1F := ⟨rfl, rfl⟩
theorem EncodedLength.unknown21 : EncodedLength.Statement .unknown21 := ⟨rfl, rfl⟩
theorem EncodedLength.unknown22 : EncodedLength.Statement .unknown22 := ⟨rfl, rfl⟩
theorem EncodedLength.unknown23 : EncodedLength.Statement .unknown23 := ⟨rfl, rfl⟩
theorem EncodedLength.unknown24 : EncodedLength.Statement .unknown24 := ⟨rfl, rfl⟩
theorem EncodedLength.unknown25 : EncodedLength.Statement .unknown25 := ⟨rfl, rfl⟩
theorem EncodedLength.unknown26 : EncodedLength.Statement .unknown26 := ⟨rfl, rfl⟩
theorem EncodedLength.unknown27 : EncodedLength.Statement .unknown27 := ⟨rfl, rfl⟩
theorem EncodedLength.unknown28 : EncodedLength.Statement .unknown28 := ⟨rfl, rfl⟩
theorem EncodedLength.unknown29 : EncodedLength.Statement .unknown29 := ⟨rfl, rfl⟩
theorem EncodedLength.unknown2A : EncodedLength.Statement .unknown2A := ⟨rfl, rfl⟩
theorem EncodedLength.unknown2B : EncodedLength.Statement .unknown2B := ⟨rfl, rfl⟩
theorem EncodedLength.unknown2C : EncodedLength.Statement .unknown2C := ⟨rfl, rfl⟩
theorem EncodedLength.unknown2D : EncodedLength.Statement .unknown2D := ⟨rfl, rfl⟩
theorem EncodedLength.unknown2E : EncodedLength.Statement .unknown2E := ⟨rfl, rfl⟩
theorem EncodedLength.unknown2F : EncodedLength.Statement .unknown2F := ⟨rfl, rfl⟩
theorem EncodedLength.unknown30 : EncodedLength.Statement .unknown30 := ⟨rfl, rfl⟩
theorem EncodedLength.unknown31 : EncodedLength.Statement .unknown31 := ⟨rfl, rfl⟩
theorem EncodedLength.unknown32 : EncodedLength.Statement .unknown32 := ⟨rfl, rfl⟩
theorem EncodedLength.unknown33 : EncodedLength.Statement .unknown33 := ⟨rfl, rfl⟩
theorem EncodedLength.unknown34 : EncodedLength.Statement .unknown34 := ⟨rfl, rfl⟩
theorem EncodedLength.unknown35 : EncodedLength.Statement .unknown35 := ⟨rfl, rfl⟩
theorem EncodedLength.unknown36 : EncodedLength.Statement .unknown36 := ⟨rfl, rfl⟩
theorem EncodedLength.unknown37 : EncodedLength.Statement .unknown37 := ⟨rfl, rfl⟩
theorem EncodedLength.unknown38 : EncodedLength.Statement .unknown38 := ⟨rfl, rfl⟩
theorem EncodedLength.unknown39 : EncodedLength.Statement .unknown39 := ⟨rfl, rfl⟩
theorem EncodedLength.unknown3A : EncodedLength.Statement .unknown3A := ⟨rfl, rfl⟩
theorem EncodedLength.unknown3B : EncodedLength.Statement .unknown3B := ⟨rfl, rfl⟩
theorem EncodedLength.unknown3C : EncodedLength.Statement .unknown3C := ⟨rfl, rfl⟩
theorem EncodedLength.unknown3D : EncodedLength.Statement .unknown3D := ⟨rfl, rfl⟩
theorem EncodedLength.unknown3E : EncodedLength.Statement .unknown3E := ⟨rfl, rfl⟩
theorem EncodedLength.unknown3F : EncodedLength.Statement .unknown3F := ⟨rfl, rfl⟩
theorem EncodedLength.unknown40 : EncodedLength.Statement .unknown40 := ⟨rfl, rfl⟩
theorem EncodedLength.unknown41 : EncodedLength.Statement .unknown41 := ⟨rfl, rfl⟩
theorem EncodedLength.unknown42 : EncodedLength.Statement .unknown42 := ⟨rfl, rfl⟩
theorem EncodedLength.unknown43 : EncodedLength.Statement .unknown43 := ⟨rfl, rfl⟩
theorem EncodedLength.unknown44 : EncodedLength.Statement .unknown44 := ⟨rfl, rfl⟩
theorem EncodedLength.unknown45 : EncodedLength.Statement .unknown45 := ⟨rfl, rfl⟩
theorem EncodedLength.unknown46 : EncodedLength.Statement .unknown46 := ⟨rfl, rfl⟩
theorem EncodedLength.unknown47 : EncodedLength.Statement .unknown47 := ⟨rfl, rfl⟩
theorem EncodedLength.unknown49 : EncodedLength.Statement .unknown49 := ⟨rfl, rfl⟩
theorem EncodedLength.unknown4A : EncodedLength.Statement .unknown4A := ⟨rfl, rfl⟩
theorem EncodedLength.unknown4B : EncodedLength.Statement .unknown4B := ⟨rfl, rfl⟩
theorem EncodedLength.unknown4C : EncodedLength.Statement .unknown4C := ⟨rfl, rfl⟩
theorem EncodedLength.unknown4D : EncodedLength.Statement .unknown4D := ⟨rfl, rfl⟩
theorem EncodedLength.unknown4E : EncodedLength.Statement .unknown4E := ⟨rfl, rfl⟩
theorem EncodedLength.unknown4F : EncodedLength.Statement .unknown4F := ⟨rfl, rfl⟩
theorem EncodedLength.unknown50 : EncodedLength.Statement .unknown50 := ⟨rfl, rfl⟩
theorem EncodedLength.unknown51 : EncodedLength.Statement .unknown51 := ⟨rfl, rfl⟩
theorem EncodedLength.unknown52 : EncodedLength.Statement .unknown52 := ⟨rfl, rfl⟩
theorem EncodedLength.unknown53 : EncodedLength.Statement .unknown53 := ⟨rfl, rfl⟩
theorem EncodedLength.unknown54 : EncodedLength.Statement .unknown54 := ⟨rfl, rfl⟩
theorem EncodedLength.unknown55 : EncodedLength.Statement .unknown55 := ⟨rfl, rfl⟩
theorem EncodedLength.unknown56 : EncodedLength.Statement .unknown56 := ⟨rfl, rfl⟩
theorem EncodedLength.unknown57 : EncodedLength.Statement .unknown57 := ⟨rfl, rfl⟩
theorem EncodedLength.unknown58 : EncodedLength.Statement .unknown58 := ⟨rfl, rfl⟩
theorem EncodedLength.unknown59 : EncodedLength.Statement .unknown59 := ⟨rfl, rfl⟩
theorem EncodedLength.unknown5A : EncodedLength.Statement .unknown5A := ⟨rfl, rfl⟩
theorem EncodedLength.unknown5B : EncodedLength.Statement .unknown5B := ⟨rfl, rfl⟩
theorem EncodedLength.unknown5C : EncodedLength.Statement .unknown5C := ⟨rfl, rfl⟩
theorem EncodedLength.unknown5D : EncodedLength.Statement .unknown5D := ⟨rfl, rfl⟩
theorem EncodedLength.unknown5E : EncodedLength.Statement .unknown5E := ⟨rfl, rfl⟩
theorem EncodedLength.unknown5F : EncodedLength.Statement .unknown5F := ⟨rfl, rfl⟩
theorem EncodedLength.unknown61 : EncodedLength.Statement .unknown61 := ⟨rfl, rfl⟩
theorem EncodedLength.unknown62 : EncodedLength.Statement .unknown62 := ⟨rfl, rfl⟩
theorem EncodedLength.unknown63 : EncodedLength.Statement .unknown63 := ⟨rfl, rfl⟩
theorem EncodedLength.unknown64 : EncodedLength.Statement .unknown64 := ⟨rfl, rfl⟩
theorem EncodedLength.unknown65 : EncodedLength.Statement .unknown65 := ⟨rfl, rfl⟩
theorem EncodedLength.unknown66 : EncodedLength.Statement .unknown66 := ⟨rfl, rfl⟩
theorem EncodedLength.unknown67 : EncodedLength.Statement .unknown67 := ⟨rfl, rfl⟩
theorem EncodedLength.unknown6A : EncodedLength.Statement .unknown6A := ⟨rfl, rfl⟩
theorem EncodedLength.unknown6B : EncodedLength.Statement .unknown6B := ⟨rfl, rfl⟩
theorem EncodedLength.unknown6C : EncodedLength.Statement .unknown6C := ⟨rfl, rfl⟩
theorem EncodedLength.unknown6D : EncodedLength.Statement .unknown6D := ⟨rfl, rfl⟩
theorem EncodedLength.unknown6E : EncodedLength.Statement .unknown6E := ⟨rfl, rfl⟩
theorem EncodedLength.unknown6F : EncodedLength.Statement .unknown6F := ⟨rfl, rfl⟩
theorem EncodedLength.unknown70 : EncodedLength.Statement .unknown70 := ⟨rfl, rfl⟩
theorem EncodedLength.unknown71 : EncodedLength.Statement .unknown71 := ⟨rfl, rfl⟩
theorem EncodedLength.unknown72 : EncodedLength.Statement .unknown72 := ⟨rfl, rfl⟩
theorem EncodedLength.unknown73 : EncodedLength.Statement .unknown73 := ⟨rfl, rfl⟩
theorem EncodedLength.unknown74 : EncodedLength.Statement .unknown74 := ⟨rfl, rfl⟩
theorem EncodedLength.unknown75 : EncodedLength.Statement .unknown75 := ⟨rfl, rfl⟩
theorem EncodedLength.unknown76 : EncodedLength.Statement .unknown76 := ⟨rfl, rfl⟩
theorem EncodedLength.unknown77 : EncodedLength.Statement .unknown77 := ⟨rfl, rfl⟩
theorem EncodedLength.unknown78 : EncodedLength.Statement .unknown78 := ⟨rfl, rfl⟩
theorem EncodedLength.unknown79 : EncodedLength.Statement .unknown79 := ⟨rfl, rfl⟩
theorem EncodedLength.unknown7A : EncodedLength.Statement .unknown7A := ⟨rfl, rfl⟩
theorem EncodedLength.unknown7B : EncodedLength.Statement .unknown7B := ⟨rfl, rfl⟩
theorem EncodedLength.unknown7C : EncodedLength.Statement .unknown7C := ⟨rfl, rfl⟩
theorem EncodedLength.unknown7D : EncodedLength.Statement .unknown7D := ⟨rfl, rfl⟩
theorem EncodedLength.unknown7E : EncodedLength.Statement .unknown7E := ⟨rfl, rfl⟩
theorem EncodedLength.unknown7F : EncodedLength.Statement .unknown7F := ⟨rfl, rfl⟩
theorem EncodedLength.unknown80 : EncodedLength.Statement .unknown80 := ⟨rfl, rfl⟩
theorem EncodedLength.unknown81 : EncodedLength.Statement .unknown81 := ⟨rfl, rfl⟩
theorem EncodedLength.unknown82 : EncodedLength.Statement .unknown82 := ⟨rfl, rfl⟩
theorem EncodedLength.unknown83 : EncodedLength.Statement .unknown83 := ⟨rfl, rfl⟩
theorem EncodedLength.unknown84 : EncodedLength.Statement .unknown84 := ⟨rfl, rfl⟩
theorem EncodedLength.unknown86 : EncodedLength.Statement .unknown86 := ⟨rfl, rfl⟩
theorem EncodedLength.unknown87 : EncodedLength.Statement .unknown87 := ⟨rfl, rfl⟩
theorem EncodedLength.unknown88 : EncodedLength.Statement .unknown88 := ⟨rfl, rfl⟩
theorem EncodedLength.unknown89 : EncodedLength.Statement .unknown89 := ⟨rfl, rfl⟩
theorem EncodedLength.unknown8A : EncodedLength.Statement .unknown8A := ⟨rfl, rfl⟩
theorem EncodedLength.unknown8B : EncodedLength.Statement .unknown8B := ⟨rfl, rfl⟩
theorem EncodedLength.unknown8C : EncodedLength.Statement .unknown8C := ⟨rfl, rfl⟩
theorem EncodedLength.unknown8E : EncodedLength.Statement .unknown8E := ⟨rfl, rfl⟩
theorem EncodedLength.unknown8F : EncodedLength.Statement .unknown8F := ⟨rfl, rfl⟩
theorem EncodedLength.unknown90 : EncodedLength.Statement .unknown90 := ⟨rfl, rfl⟩
theorem EncodedLength.unknown91 : EncodedLength.Statement .unknown91 := ⟨rfl, rfl⟩
theorem EncodedLength.unknown92 : EncodedLength.Statement .unknown92 := ⟨rfl, rfl⟩
theorem EncodedLength.unknown93 : EncodedLength.Statement .unknown93 := ⟨rfl, rfl⟩
theorem EncodedLength.unknown94 : EncodedLength.Statement .unknown94 := ⟨rfl, rfl⟩
theorem EncodedLength.unknown95 : EncodedLength.Statement .unknown95 := ⟨rfl, rfl⟩
theorem EncodedLength.unknown96 : EncodedLength.Statement .unknown96 := ⟨rfl, rfl⟩
theorem EncodedLength.unknown97 : EncodedLength.Statement .unknown97 := ⟨rfl, rfl⟩
theorem EncodedLength.unknown98 : EncodedLength.Statement .unknown98 := ⟨rfl, rfl⟩
theorem EncodedLength.unknown99 : EncodedLength.Statement .unknown99 := ⟨rfl, rfl⟩
theorem EncodedLength.unknown9A : EncodedLength.Statement .unknown9A := ⟨rfl, rfl⟩
theorem EncodedLength.unknown9B : EncodedLength.Statement .unknown9B := ⟨rfl, rfl⟩
theorem EncodedLength.unknown9C : EncodedLength.Statement .unknown9C := ⟨rfl, rfl⟩
theorem EncodedLength.unknown9D : EncodedLength.Statement .unknown9D := ⟨rfl, rfl⟩
theorem EncodedLength.unknown9E : EncodedLength.Statement .unknown9E := ⟨rfl, rfl⟩
theorem EncodedLength.unknown9F : EncodedLength.Statement .unknown9F := ⟨rfl, rfl⟩
theorem EncodedLength.unknownA1 : EncodedLength.Statement .unknownA1 := ⟨rfl, rfl⟩
theorem EncodedLength.unknownA3 : EncodedLength.Statement .unknownA3 := ⟨rfl, rfl⟩
theorem EncodedLength.unknownA4 : EncodedLength.Statement .unknownA4 := ⟨rfl, rfl⟩
theorem EncodedLength.unknownA5 : EncodedLength.Statement .unknownA5 := ⟨rfl, rfl⟩
theorem EncodedLength.unknownA6 : EncodedLength.Statement .unknownA6 := ⟨rfl, rfl⟩
theorem EncodedLength.unknownA7 : EncodedLength.Statement .unknownA7 := ⟨rfl, rfl⟩
theorem EncodedLength.unknownA8 : EncodedLength.Statement .unknownA8 := ⟨rfl, rfl⟩
theorem EncodedLength.unknownAA : EncodedLength.Statement .unknownAA := ⟨rfl, rfl⟩
theorem EncodedLength.unknownAB : EncodedLength.Statement .unknownAB := ⟨rfl, rfl⟩
theorem EncodedLength.unknownAC : EncodedLength.Statement .unknownAC := ⟨rfl, rfl⟩
theorem EncodedLength.unknownAD : EncodedLength.Statement .unknownAD := ⟨rfl, rfl⟩
theorem EncodedLength.unknownAE : EncodedLength.Statement .unknownAE := ⟨rfl, rfl⟩
theorem EncodedLength.unknownAF : EncodedLength.Statement .unknownAF := ⟨rfl, rfl⟩
theorem EncodedLength.unknownB0 : EncodedLength.Statement .unknownB0 := ⟨rfl, rfl⟩
theorem EncodedLength.unknownB1 : EncodedLength.Statement .unknownB1 := ⟨rfl, rfl⟩
theorem EncodedLength.unknownB2 : EncodedLength.Statement .unknownB2 := ⟨rfl, rfl⟩
theorem EncodedLength.unknownB3 : EncodedLength.Statement .unknownB3 := ⟨rfl, rfl⟩
theorem EncodedLength.unknownB4 : EncodedLength.Statement .unknownB4 := ⟨rfl, rfl⟩
theorem EncodedLength.unknownB5 : EncodedLength.Statement .unknownB5 := ⟨rfl, rfl⟩
theorem EncodedLength.unknownB6 : EncodedLength.Statement .unknownB6 := ⟨rfl, rfl⟩
theorem EncodedLength.unknownB7 : EncodedLength.Statement .unknownB7 := ⟨rfl, rfl⟩
theorem EncodedLength.unknownB8 : EncodedLength.Statement .unknownB8 := ⟨rfl, rfl⟩
theorem EncodedLength.unknownB9 : EncodedLength.Statement .unknownB9 := ⟨rfl, rfl⟩
theorem EncodedLength.unknownBA : EncodedLength.Statement .unknownBA := ⟨rfl, rfl⟩
theorem EncodedLength.unknownBB : EncodedLength.Statement .unknownBB := ⟨rfl, rfl⟩
theorem EncodedLength.unknownBC : EncodedLength.Statement .unknownBC := ⟨rfl, rfl⟩
theorem EncodedLength.unknownBD : EncodedLength.Statement .unknownBD := ⟨rfl, rfl⟩
theorem EncodedLength.unknownBE : EncodedLength.Statement .unknownBE := ⟨rfl, rfl⟩
theorem EncodedLength.unknownBF : EncodedLength.Statement .unknownBF := ⟨rfl, rfl⟩
theorem EncodedLength.unknownC0 : EncodedLength.Statement .unknownC0 := ⟨rfl, rfl⟩
theorem EncodedLength.unknownC1 : EncodedLength.Statement .unknownC1 := ⟨rfl, rfl⟩
theorem EncodedLength.unknownC2 : EncodedLength.Statement .unknownC2 := ⟨rfl, rfl⟩
theorem EncodedLength.unknownC3 : EncodedLength.Statement .unknownC3 := ⟨rfl, rfl⟩
theorem EncodedLength.unknownC4 : EncodedLength.Statement .unknownC4 := ⟨rfl, rfl⟩
theorem EncodedLength.unknownC5 : EncodedLength.Statement .unknownC5 := ⟨rfl, rfl⟩
theorem EncodedLength.unknownC6 : EncodedLength.Statement .unknownC6 := ⟨rfl, rfl⟩
theorem EncodedLength.unknownC7 : EncodedLength.Statement .unknownC7 := ⟨rfl, rfl⟩
theorem EncodedLength.unknownC8 : EncodedLength.Statement .unknownC8 := ⟨rfl, rfl⟩
theorem EncodedLength.unknownC9 : EncodedLength.Statement .unknownC9 := ⟨rfl, rfl⟩
theorem EncodedLength.unknownCA : EncodedLength.Statement .unknownCA := ⟨rfl, rfl⟩
theorem EncodedLength.unknownCB : EncodedLength.Statement .unknownCB := ⟨rfl, rfl⟩
theorem EncodedLength.unknownCC : EncodedLength.Statement .unknownCC := ⟨rfl, rfl⟩
theorem EncodedLength.unknownCD : EncodedLength.Statement .unknownCD := ⟨rfl, rfl⟩
theorem EncodedLength.unknownCE : EncodedLength.Statement .unknownCE := ⟨rfl, rfl⟩
theorem EncodedLength.unknownCF : EncodedLength.Statement .unknownCF := ⟨rfl, rfl⟩
theorem EncodedLength.unknownD0 : EncodedLength.Statement .unknownD0 := ⟨rfl, rfl⟩
theorem EncodedLength.unknownD1 : EncodedLength.Statement .unknownD1 := ⟨rfl, rfl⟩
theorem EncodedLength.unknownD2 : EncodedLength.Statement .unknownD2 := ⟨rfl, rfl⟩
theorem EncodedLength.unknownD3 : EncodedLength.Statement .unknownD3 := ⟨rfl, rfl⟩
theorem EncodedLength.unknownD4 : EncodedLength.Statement .unknownD4 := ⟨rfl, rfl⟩
theorem EncodedLength.unknownD5 : EncodedLength.Statement .unknownD5 := ⟨rfl, rfl⟩
theorem EncodedLength.unknownD6 : EncodedLength.Statement .unknownD6 := ⟨rfl, rfl⟩
theorem EncodedLength.unknownD7 : EncodedLength.Statement .unknownD7 := ⟨rfl, rfl⟩
theorem EncodedLength.unknownD8 : EncodedLength.Statement .unknownD8 := ⟨rfl, rfl⟩
theorem EncodedLength.unknownD9 : EncodedLength.Statement .unknownD9 := ⟨rfl, rfl⟩
theorem EncodedLength.unknownDA : EncodedLength.Statement .unknownDA := ⟨rfl, rfl⟩
theorem EncodedLength.unknownDB : EncodedLength.Statement .unknownDB := ⟨rfl, rfl⟩
theorem EncodedLength.unknownDC : EncodedLength.Statement .unknownDC := ⟨rfl, rfl⟩
theorem EncodedLength.unknownDD : EncodedLength.Statement .unknownDD := ⟨rfl, rfl⟩
theorem EncodedLength.unknownDE : EncodedLength.Statement .unknownDE := ⟨rfl, rfl⟩
theorem EncodedLength.unknownDF : EncodedLength.Statement .unknownDF := ⟨rfl, rfl⟩
theorem EncodedLength.unknownE0 : EncodedLength.Statement .unknownE0 := ⟨rfl, rfl⟩
theorem EncodedLength.unknownE1 : EncodedLength.Statement .unknownE1 := ⟨rfl, rfl⟩
theorem EncodedLength.unknownE2 : EncodedLength.Statement .unknownE2 := ⟨rfl, rfl⟩
theorem EncodedLength.unknownE3 : EncodedLength.Statement .unknownE3 := ⟨rfl, rfl⟩
theorem EncodedLength.unknownE4 : EncodedLength.Statement .unknownE4 := ⟨rfl, rfl⟩
theorem EncodedLength.unknownE5 : EncodedLength.Statement .unknownE5 := ⟨rfl, rfl⟩
theorem EncodedLength.unknownE6 : EncodedLength.Statement .unknownE6 := ⟨rfl, rfl⟩
theorem EncodedLength.unknownE7 : EncodedLength.Statement .unknownE7 := ⟨rfl, rfl⟩
theorem EncodedLength.unknownEA : EncodedLength.Statement .unknownEA := ⟨rfl, rfl⟩
theorem EncodedLength.unknownEB : EncodedLength.Statement .unknownEB := ⟨rfl, rfl⟩
theorem EncodedLength.unknownEC : EncodedLength.Statement .unknownEC := ⟨rfl, rfl⟩
theorem EncodedLength.unknownED : EncodedLength.Statement .unknownED := ⟨rfl, rfl⟩
theorem EncodedLength.unknownEE : EncodedLength.Statement .unknownEE := ⟨rfl, rfl⟩
theorem EncodedLength.unknownEF : EncodedLength.Statement .unknownEF := ⟨rfl, rfl⟩
theorem EncodedLength.unknownF0 : EncodedLength.Statement .unknownF0 := ⟨rfl, rfl⟩
theorem EncodedLength.unknownF1 : EncodedLength.Statement .unknownF1 := ⟨rfl, rfl⟩
theorem EncodedLength.unknownF2 : EncodedLength.Statement .unknownF2 := ⟨rfl, rfl⟩
theorem EncodedLength.unknownF3 : EncodedLength.Statement .unknownF3 := ⟨rfl, rfl⟩
theorem EncodedLength.unknownF4 : EncodedLength.Statement .unknownF4 := ⟨rfl, rfl⟩
theorem EncodedLength.unknownF5 : EncodedLength.Statement .unknownF5 := ⟨rfl, rfl⟩
theorem EncodedLength.unknownF6 : EncodedLength.Statement .unknownF6 := ⟨rfl, rfl⟩
theorem EncodedLength.unknownF7 : EncodedLength.Statement .unknownF7 := ⟨rfl, rfl⟩
theorem EncodedLength.unknownF8 : EncodedLength.Statement .unknownF8 := ⟨rfl, rfl⟩
theorem EncodedLength.unknownF9 : EncodedLength.Statement .unknownF9 := ⟨rfl, rfl⟩
theorem EncodedLength.unknownFA : EncodedLength.Statement .unknownFA := ⟨rfl, rfl⟩
theorem EncodedLength.unknownFB : EncodedLength.Statement .unknownFB := ⟨rfl, rfl⟩
theorem EncodedLength.unknownFC : EncodedLength.Statement .unknownFC := ⟨rfl, rfl⟩
theorem EncodedLength.unknownFD : EncodedLength.Statement .unknownFD := ⟨rfl, rfl⟩
theorem EncodedLength.unknownFE : EncodedLength.Statement .unknownFE := ⟨rfl, rfl⟩
theorem EncodedLength.unknownFF : EncodedLength.Statement .unknownFF := ⟨rfl, rfl⟩

end Sys2Proof.Laws
end

