-- ==== Sys2Proof/Laws/Step.lean ====
section
/-! SUPPORT. What the fetch and a step do: the instruction at `pc` with `pc` past it, one lemma per format. -/

namespace Sys2Proof.Machine

theorem fetchInstr_imp {s : State} {i : Instr} (h : opcodeEntry (s.mem.read s.pc) = .imp i) :
    fetchInstr s = (i, s.setPc (s.pc + 1#16)) := by
  simp [fetchInstr, h]

theorem fetchInstr_imm {s : State} {make : Byte → Instr} (h : opcodeEntry (s.mem.read s.pc) = .imm make) :
    fetchInstr s = (make (s.mem.read (s.pc + 1#16)), s.setPc (s.pc + 2#16)) := by
  simp [fetchInstr, h, BitVec.add_assoc]

theorem fetchInstr_zp {s : State} {make : Byte → Instr} (h : opcodeEntry (s.mem.read s.pc) = .zp make) :
    fetchInstr s = (make (s.mem.read (s.pc + 1#16)), s.setPc (s.pc + 2#16)) := by
  simp [fetchInstr, h, BitVec.add_assoc]

theorem fetchInstr_abs {s : State} {make : Addr → Instr} (h : opcodeEntry (s.mem.read s.pc) = .abs make) :
    fetchInstr s =
      (make (makeWord (s.mem.read (s.pc + 2#16)) (s.mem.read (s.pc + 1#16))), s.setPc (s.pc + 3#16)) := by
  simp [fetchInstr, h, BitVec.add_assoc]

/-- The instruction fetched has the opcode that stands at `pc`, and the only other effect of the fetch is that `pc`
has moved past the instruction. -/
theorem fetchInstr_spec (s : State) :
    (fetchInstr s).1.opcode = s.mem.read s.pc ∧
    (fetchInstr s).2 = s.setPc (s.pc + BitVec.ofNat 16 (lengthOfOpcode (s.mem.read s.pc))) := by
  have henc := opcodeEntry_encodes (s.mem.read s.pc)
  have hlen := opcodeEntry_length (s.mem.read s.pc)
  cases h : opcodeEntry (s.mem.read s.pc) <;> rw [h] at henc hlen <;> rw [← hlen]
  · rw [fetchInstr_imp h]; exact ⟨henc.1, rfl⟩
  · rw [fetchInstr_imm h]; exact ⟨(henc _).1, rfl⟩
  · rw [fetchInstr_zp h]; exact ⟨(henc _).1, rfl⟩
  · rw [fetchInstr_abs h]; exact ⟨(henc _).1, rfl⟩

/-- A step executes some instruction with the opcode at `pc`, with `pc` past it. -/
theorem step_eq_exec (s : State) :
    ∃ i, i.opcode = s.mem.read s.pc ∧
      step s = exec i (s.setPc (s.pc + BitVec.ofNat 16 (lengthOfOpcode (s.mem.read s.pc)))) :=
  ⟨_, (fetchInstr_spec s).1, by rw [step, (fetchInstr_spec s).2]⟩

/-- Decoding the bytes at an address gives what the fetch gives. -/
theorem decode_eq_fetchInstr (s : State) :
    ∃ rest, decode [s.mem.read s.pc, s.mem.read (s.pc + 1#16), s.mem.read (s.pc + 2#16)] =
      .ok ((fetchInstr s).1, rest) := by
  cases h : opcodeEntry (s.mem.read s.pc)
  · rw [fetchInstr_imp h]; simp [decode, h]
  · rw [fetchInstr_imm h]; simp [decode, h]
  · rw [fetchInstr_zp h]; simp [decode, h]
  · rw [fetchInstr_abs h]; simp [decode, h]

end Sys2Proof.Machine
end

