-- ==== Sys2Proof/Laws/Run.lean ====
section
/-! SUPPORT. The run loop unfolded once, sequences of steps, and what the host and a run in progress do. -/

namespace Sys2Proof.Machine

/-- One iteration of a run whose step is the last: it halted. -/
theorem run_halt {s t : State} (debug : Bool) (fuel : Nat) (h : step s = .next t) (ho : t.outcome = some .halt) :
    run debug (fuel + 1) s = ⟨t, .halted, 1, debugSnapshot debug s, t.report.toList⟩ := by
  simp [run, h, ho, RunResult.after]

/-- One iteration of a run that goes on. -/
theorem run_go {s t : State} (debug : Bool) (fuel : Nat) (h : step s = .next t) (ho : t.outcome ≠ some .halt) :
    run debug (fuel + 1) s = (run debug fuel t).after (debugSnapshot debug s) t.report := by
  simp [run, h, ho]

/-- Steps one after the other. -/
theorem Steps.trans {m n : Nat} {s t u : State} (h1 : Steps m s t) (h2 : Steps n t u) : Steps (m + n) s u := by
  induction h1 with
  | none => simpa using h2
  | more h _ ih => rw [Nat.add_right_comm]; exact .more h (ih h2)

/-! ### The host beside the machine -/

@[simp] theorem Session.whenIdle_idle {α : Type} (s : State) (act : State → Host.Outcome α Fault Refusal) :
    (⟨s, .idle⟩ : Session).whenIdle act = act s := rfl

@[simp] theorem Session.whenIdle_running {α : Type} (s : State) (debug : Bool)
    (act : State → Host.Outcome α Fault Refusal) :
    (⟨s, .running debug⟩ : Session).whenIdle act = .refused .runInProgress := rfl

theorem idleAfter_eq_next {r : Result} {n : Session} :
    idleAfter r = .next n ↔ r = .next n.machine ∧ n.phase = .idle := by
  obtain ⟨s, p⟩ := n
  cases r <;> simp [idleAfter, eq_comm]

/-- Everything a command that completes can do: no run was in progress, and it was one of the four. -/
theorem Session.command_cases {m n : Session} {c : HostCommand} (h : m.command c = .next n) :
    m.phase = .idle ∧
      ((∃ bytes start, c = .load bytes start ∧ hostLoad bytes start m.machine = .next n.machine ∧ n.phase = .idle) ∨
       (∃ addr value, c = .write addr value ∧ hostWrite addr value m.machine = .next n.machine ∧ n.phase = .idle) ∨
       (c = .reset ∧ n = ⟨resetCore m.machine, .idle⟩) ∨
       (∃ debug, c = .run debug ∧ n = ⟨m.machine, .running debug⟩)) := by
  obtain ⟨s, _ | debug⟩ := m
  · refine ⟨rfl, ?_⟩
    cases c with
    | load bytes start => exact .inl ⟨bytes, start, rfl, idleAfter_eq_next.mp h⟩
    | write addr value => exact .inr (.inl ⟨addr, value, rfl, idleAfter_eq_next.mp h⟩)
    | reset => exact .inr (.inr (.inl ⟨rfl, (Host.Outcome.next.inj h).symm⟩))
    | run debug => exact .inr (.inr (.inr ⟨debug, rfl, (Host.Outcome.next.inj h).symm⟩))
  · cases h

/-- One iteration of a run in progress, where its step answers a next state. -/
theorem Session.advance_running {s t : State} (debug : Bool) (h : step s = .next t) :
    (⟨s, .running debug⟩ : Session).advance = .next ⟨t, if t.outcome = some .halt then .idle else .running debug⟩ := by
  simp [Session.advance, h]

/-- Everything an iteration that completes can do: nothing where no run is in progress, else one step. -/
theorem Session.advance_cases {m n : Session} (h : m.advance = .next n) :
    (m.phase = .idle ∧ n = m) ∨
    (∃ debug, m.phase = .running debug ∧ step m.machine = .next n.machine ∧
      n.phase = if n.machine.outcome = some .halt then .idle else .running debug) := by
  obtain ⟨s, _ | debug⟩ := m
  · exact .inl ⟨rfl, (Host.Outcome.next.inj h).symm⟩
  · refine .inr ⟨debug, rfl, ?_⟩
    cases hs : step s with
    | next t =>
      rw [Session.advance_running debug hs] at h
      obtain rfl := Host.Outcome.next.inj h
      exact ⟨rfl, rfl⟩
    | fault f => simp [Session.advance, hs] at h
    | refused r => simp [Session.advance, hs] at h

end Sys2Proof.Machine
end

