-- ==== Sys2Proof/Tests/Slice0.lean ====
section
/-! SUPPORT. The model's own tests. Expected results come from spec/: the encodings of 30_encoding.md and
spec/opcode_table.json, the vectors of 95_test_vectors.md (named at each test). Then one witness for each statement that
has hypotheses: a concrete state and operands that meet them. -/

namespace Sys2Proof.Tests

open Sys2Proof.Machine Sys2Proof.Claims

/-- A state as after reset with bytes at `pc` and no others. -/
def placed (pc : Addr) (bytes : List Byte) : State :=
  { State.reset with pc := pc, mem := Memory.writeBytes [] pc bytes }

/-- A reading of the state after one step. -/
def after {α : Type} (f : State → α) (s : State) : Option α :=
  match step s with
  | .next t => some (f t)
  | _ => none

/-! ### Decoding: words written out bit by bit (30_encoding.md R51, R53) -/

theorem test_decode_imm : decode [0b10101001#8, 0b00010000#8] = .ok (.lda 0x10#8, []) := rfl
theorem test_decode_ldx : decode [0b10100010#8, 0b11111110#8] = .ok (.ldx 0xFE#8, []) := rfl
theorem test_decode_ldy : decode [0b10100000#8, 0b10000000#8] = .ok (.ldy 0x80#8, []) := rfl
theorem test_decode_zp : decode [0b10000101#8, 0b00010000#8] = .ok (.staZp 0x10#8, []) := rfl
theorem test_decode_abs : decode [0b10001101#8, 0b00000001#8, 0b00000010#8] = .ok (.staAbs 0x0201#16, []) := rfl
theorem test_decode_inx : decode [0b11101000#8] = .ok (.inx, []) := rfl
theorem test_decode_adc : decode [0b01101001#8, 0b00000001#8] = .ok (.adc 0x01#8, []) := rfl
theorem test_decode_sbc : decode [0b11101001#8, 0b00000001#8] = .ok (.sbc 0x01#8, []) := rfl
theorem test_decode_pha : decode [0b01001000#8] = .ok (.pha, []) := rfl
theorem test_decode_pla : decode [0b01101000#8] = .ok (.pla, []) := rfl
theorem test_decode_jsr : decode [0b00100000#8, 0b00001001#8, 0b10000000#8] = .ok (.jsr 0x8009#16, []) := rfl
theorem test_decode_rts : decode [0b01100000#8] = .ok (.rts, []) := rfl
theorem test_decode_brk : decode [0b00000000#8, 0xA9#8] = .ok (.brk, [0xA9#8]) := rfl
theorem test_decode_unknown : decode [0b11111111#8] = .ok (.unknownFF, []) := rfl

/-! The whole opcode table, row by row of the grid of R53, operand bytes zero. -/

theorem test_decode_row0 : (List.range 16).map (fun l => decodeTableWord 24 (0x00 + l)) =
    [.brk, .unknown01, .unknown02, .unknown03,
     .unknown04, .unknown05, .unknown06, .unknown07,
     .unknown08, .unknown09, .unknown0A, .unknown0B,
     .unknown0C, .unknown0D, .unknown0E, .unknown0F].map some := by decide

theorem test_decode_row1 : (List.range 16).map (fun l => decodeTableWord 24 (0x10 + l)) =
    [.unknown10, .unknown11, .unknown12, .unknown13,
     .unknown14, .unknown15, .unknown16, .unknown17,
     .unknown18, .unknown19, .unknown1A, .unknown1B,
     .unknown1C, .unknown1D, .unknown1E, .unknown1F].map some := by decide

theorem test_decode_row2 : (List.range 16).map (fun l => decodeTableWord 24 (0x20 + l)) =
    [.jsr 0#16, .unknown21, .unknown22, .unknown23,
     .unknown24, .unknown25, .unknown26, .unknown27,
     .unknown28, .unknown29, .unknown2A, .unknown2B,
     .unknown2C, .unknown2D, .unknown2E, .unknown2F].map some := by decide

theorem test_decode_row3 : (List.range 16).map (fun l => decodeTableWord 24 (0x30 + l)) =
    [.unknown30, .unknown31, .unknown32, .unknown33,
     .unknown34, .unknown35, .unknown36, .unknown37,
     .unknown38, .unknown39, .unknown3A, .unknown3B,
     .unknown3C, .unknown3D, .unknown3E, .unknown3F].map some := by decide

theorem test_decode_row4 : (List.range 16).map (fun l => decodeTableWord 24 (0x40 + l)) =
    [.unknown40, .unknown41, .unknown42, .unknown43,
     .unknown44, .unknown45, .unknown46, .unknown47,
     .pha, .unknown49, .unknown4A, .unknown4B,
     .unknown4C, .unknown4D, .unknown4E, .unknown4F].map some := by decide

theorem test_decode_row5 : (List.range 16).map (fun l => decodeTableWord 24 (0x50 + l)) =
    [.unknown50, .unknown51, .unknown52, .unknown53,
     .unknown54, .unknown55, .unknown56, .unknown57,
     .unknown58, .unknown59, .unknown5A, .unknown5B,
     .unknown5C, .unknown5D, .unknown5E, .unknown5F].map some := by decide

theorem test_decode_row6 : (List.range 16).map (fun l => decodeTableWord 24 (0x60 + l)) =
    [.rts, .unknown61, .unknown62, .unknown63,
     .unknown64, .unknown65, .unknown66, .unknown67,
     .pla, .adc 0#8, .unknown6A, .unknown6B,
     .unknown6C, .unknown6D, .unknown6E, .unknown6F].map some := by decide

theorem test_decode_row7 : (List.range 16).map (fun l => decodeTableWord 24 (0x70 + l)) =
    [.unknown70, .unknown71, .unknown72, .unknown73,
     .unknown74, .unknown75, .unknown76, .unknown77,
     .unknown78, .unknown79, .unknown7A, .unknown7B,
     .unknown7C, .unknown7D, .unknown7E, .unknown7F].map some := by decide

theorem test_decode_row8 : (List.range 16).map (fun l => decodeTableWord 24 (0x80 + l)) =
    [.unknown80, .unknown81, .unknown82, .unknown83,
     .unknown84, .staZp 0#8, .unknown86, .unknown87,
     .unknown88, .unknown89, .unknown8A, .unknown8B,
     .unknown8C, .staAbs 0#16, .unknown8E, .unknown8F].map some := by decide

theorem test_decode_row9 : (List.range 16).map (fun l => decodeTableWord 24 (0x90 + l)) =
    [.unknown90, .unknown91, .unknown92, .unknown93,
     .unknown94, .unknown95, .unknown96, .unknown97,
     .unknown98, .unknown99, .unknown9A, .unknown9B,
     .unknown9C, .unknown9D, .unknown9E, .unknown9F].map some := by decide

theorem test_decode_rowA : (List.range 16).map (fun l => decodeTableWord 24 (0xA0 + l)) =
    [.ldy 0#8, .unknownA1, .ldx 0#8, .unknownA3,
     .unknownA4, .unknownA5, .unknownA6, .unknownA7,
     .unknownA8, .lda 0#8, .unknownAA, .unknownAB,
     .unknownAC, .unknownAD, .unknownAE, .unknownAF].map some := by decide

theorem test_decode_rowB : (List.range 16).map (fun l => decodeTableWord 24 (0xB0 + l)) =
    [.unknownB0, .unknownB1, .unknownB2, .unknownB3,
     .unknownB4, .unknownB5, .unknownB6, .unknownB7,
     .unknownB8, .unknownB9, .unknownBA, .unknownBB,
     .unknownBC, .unknownBD, .unknownBE, .unknownBF].map some := by decide

theorem test_decode_rowC : (List.range 16).map (fun l => decodeTableWord 24 (0xC0 + l)) =
    [.unknownC0, .unknownC1, .unknownC2, .unknownC3,
     .unknownC4, .unknownC5, .unknownC6, .unknownC7,
     .unknownC8, .unknownC9, .unknownCA, .unknownCB,
     .unknownCC, .unknownCD, .unknownCE, .unknownCF].map some := by decide

theorem test_decode_rowD : (List.range 16).map (fun l => decodeTableWord 24 (0xD0 + l)) =
    [.unknownD0, .unknownD1, .unknownD2, .unknownD3,
     .unknownD4, .unknownD5, .unknownD6, .unknownD7,
     .unknownD8, .unknownD9, .unknownDA, .unknownDB,
     .unknownDC, .unknownDD, .unknownDE, .unknownDF].map some := by decide

theorem test_decode_rowE : (List.range 16).map (fun l => decodeTableWord 24 (0xE0 + l)) =
    [.unknownE0, .unknownE1, .unknownE2, .unknownE3,
     .unknownE4, .unknownE5, .unknownE6, .unknownE7,
     .inx, .sbc 0#8, .unknownEA, .unknownEB,
     .unknownEC, .unknownED, .unknownEE, .unknownEF].map some := by decide

theorem test_decode_rowF : (List.range 16).map (fun l => decodeTableWord 24 (0xF0 + l)) =
    [.unknownF0, .unknownF1, .unknownF2, .unknownF3,
     .unknownF4, .unknownF5, .unknownF6, .unknownF7,
     .unknownF8, .unknownF9, .unknownFA, .unknownFB,
     .unknownFC, .unknownFD, .unknownFE, .unknownFF].map some := by decide

/-! ### Well-formedness: what the check refuses (R55, R60) -/

theorem test_wf_no_byte : encodingWf [] = false := by decide
theorem test_wf_missing_operand : encodingWf [0xA9#8] = false := by decide
theorem test_wf_missing_high_byte : encodingWf [0x20#8, 0x09#8] = false := by decide
theorem test_wf_byte_too_many : encodingWf [0xE8#8, 0x00#8] = false := by decide
theorem test_wf_whole : encodingWf [0x8D#8, 0x00#8, 0x02#8] = true := by decide
theorem test_decode_missing : decode [0x8D#8, 0x00#8] = .error (.missingOperand 0x8D#8) := rfl
theorem test_decode_nothing : decode [] = .error .noOpcode := rfl

/-! ### Flags (95_test_vectors.md part 2, Z) -/

theorem test_setZN_Z9 : setZN 0xFF#8 0x01#8 = 0x7D#8 := by decide
theorem test_setZN_Z11 : setZN 0x7D#8 0x80#8 = 0xFD#8 := by decide

/-! ### One step of each instruction (95_test_vectors.md part 2) -/

def snap (pc : Addr) (a x y sp status : Byte) : Snapshot :=
  { pc := pc, a := a, x := x, y := y, sp := sp, status := status }

theorem test_lda_L2 : after inspect { placed 0x8000#16 [0xA9#8, 0x00#8] with a := 0x55#8, status := 0xA1#8 } =
    some (snap 0x8002#16 0x00#8 0x00#8 0x00#8 0xFD#8 0x23#8) := by decide
theorem test_lda_L9 : after inspect (placed 0xFFFF#16 [0xA9#8, 0x33#8]) =
    some (snap 0x0001#16 0x33#8 0x00#8 0x00#8 0xFD#8 0x20#8) := by decide
theorem test_ldx_L5 : after inspect (placed 0x8000#16 [0xA2#8, 0xFE#8]) =
    some (snap 0x8002#16 0x00#8 0xFE#8 0x00#8 0xFD#8 0xA0#8) := by decide
theorem test_ldy_L6 : after inspect { placed 0x8000#16 [0xA0#8, 0xFF#8] with status := 0x23#8 } =
    some (snap 0x8002#16 0x00#8 0x00#8 0xFF#8 0xFD#8 0xA1#8) := by decide
theorem test_staZp_T9 : after (fun t => (inspect t, t.mem.read 0x0000#16))
    { placed 0xFFFF#16 [0x85#8, 0x00#8] with a := 0x99#8 } =
    some (snap 0x0001#16 0x99#8 0x00#8 0x00#8 0xFD#8 0x20#8, 0x99#8) := by decide
theorem test_staZp_T1 : after (fun t => (inspect t, t.mem.read 0x0010#16))
    { placed 0x8000#16 [0x85#8, 0x10#8] with a := 0x77#8, status := 0x23#8 } =
    some (snap 0x8002#16 0x77#8 0x00#8 0x00#8 0xFD#8 0x23#8, 0x77#8) := by decide
theorem test_staAbs_T4 : after (fun t => (inspect t, t.mem.read 0x0200#16))
    { placed 0x8000#16 [0x8D#8, 0x00#8, 0x02#8] with a := 0x80#8 } =
    some (snap 0x8003#16 0x80#8 0x00#8 0x00#8 0xFD#8 0x20#8, 0x80#8) := by decide
theorem test_staAbs_T6 : after (fun t => t.mem.read t.pc) { placed 0x8000#16 [0x8D#8, 0x03#8, 0x80#8] with a := 0xE8#8 } =
    some 0xE8#8 := by decide
theorem test_inx_I2 : after inspect { placed 0x8000#16 [0xE8#8] with x := 0x7F#8 } =
    some (snap 0x8001#16 0x00#8 0x80#8 0x00#8 0xFD#8 0xA0#8) := by decide
theorem test_inx_I3 : after inspect { placed 0x8000#16 [0xE8#8] with x := 0xFF#8, status := 0x21#8 } =
    some (snap 0x8001#16 0x00#8 0x00#8 0x00#8 0xFD#8 0x23#8) := by decide
theorem test_adc_A3 : after inspect { placed 0x8000#16 [0x69#8, 0x01#8] with a := 0xFF#8 } =
    some (snap 0x8002#16 0x00#8 0x00#8 0x00#8 0xFD#8 0x23#8) := by decide
theorem test_adc_A14 : after inspect { placed 0x8000#16 [0x69#8, 0x01#8] with a := 0x01#8, status := 0x7D#8 } =
    some (snap 0x8002#16 0x03#8 0x00#8 0x00#8 0xFD#8 0x7C#8) := by decide
theorem test_sbc_B3 : after inspect { placed 0x8000#16 [0xE9#8, 0x01#8] with a := 0x00#8, status := 0x21#8 } =
    some (snap 0x8002#16 0xFF#8 0x00#8 0x00#8 0xFD#8 0xA1#8) := by decide
theorem test_sbc_B5 : after inspect { placed 0x8000#16 [0xE9#8, 0xFF#8] with a := 0x00#8 } =
    some (snap 0x8002#16 0x00#8 0x00#8 0x00#8 0xFD#8 0x22#8) := by decide
theorem test_pha_K2 : after (fun t => (inspect t, t.mem.read 0x0100#16))
    { placed 0x8000#16 [0x48#8] with sp := 0x00#8, status := 0xA1#8 } =
    some (snap 0x8001#16 0x00#8 0x00#8 0x00#8 0xFF#8 0xA1#8, 0x00#8) := by decide
theorem test_pla_K5 : after inspect
    { (placed 0x8000#16 [0x68#8]).memWrite 0x0100#16 0x00#8 with a := 0xEE#8, sp := 0xFF#8, status := 0xA1#8 } =
    some (snap 0x8001#16 0x00#8 0x00#8 0x00#8 0x00#8 0x23#8) := by decide
theorem test_jsr_J2 : after (fun t => (inspect t, t.mem.read 0x0100#16, t.mem.read 0x01FF#16))
    { placed 0x8000#16 [0x20#8, 0x34#8, 0x12#8] with sp := 0x00#8 } =
    some (snap 0x1234#16 0x00#8 0x00#8 0x00#8 0xFE#8 0x20#8, 0x80#8, 0x02#8) := by decide
theorem test_jsr_J7 : after (fun t => (inspect t, t.mem.read 0x01FD#16, t.mem.read 0x01FC#16))
    (placed 0x01FB#16 [0x20#8, 0x00#8, 0x90#8]) =
    some (snap 0x9000#16 0x00#8 0x00#8 0x00#8 0xFB#8 0x20#8, 0x01#8, 0xFD#8) := by decide
theorem test_rts_R2 : after inspect
    { ((placed 0x9000#16 [0x60#8]).memWrite 0x01FC#16 0xFF#8).memWrite 0x01FD#16 0xFF#8 with sp := 0xFB#8 } =
    some (snap 0x0000#16 0x00#8 0x00#8 0x00#8 0xFD#8 0x20#8) := by decide
theorem test_rts_R4 : after inspect
    { ((placed 0x9000#16 [0x60#8]).memWrite 0x01FF#16 0x33#8).memWrite 0x0100#16 0x44#8 with sp := 0xFE#8 } =
    some (snap 0x4434#16 0x00#8 0x00#8 0x00#8 0x00#8 0x20#8) := by decide
theorem test_brk_H2 : after (fun t => (inspect t, t.outcome))
    { placed 0xFFFF#16 [0x00#8] with sp := 0x10#8, status := 0xA1#8 } =
    some (snap 0x0000#16 0x00#8 0x00#8 0x00#8 0x10#8 0xA1#8, some .halt) := by decide
theorem test_unknown_V2 : after (fun t => (inspect t, t.outcome, t.report))
    { placed 0xFFFF#16 [0xEA#8] with a := 0x01#8, x := 0x02#8, y := 0x03#8, sp := 0x04#8, status := 0xA1#8 } =
    some (snap 0x0000#16 0x01#8 0x02#8 0x03#8 0x04#8 0xA1#8, some (.continued 2), some 0xEA#8) := by decide

/-! ### Load and reset (95_test_vectors.md part 2, X) -/

theorem test_load_reset_X4 : inspect (resetCore (State.reset.setMem (State.reset.mem.load 0x1234#16 [0xE8#8]))) =
    snap 0x1234#16 0x00#8 0x00#8 0x00#8 0xFD#8 0x20#8 := by decide

/-- The first word of the source's scenario, placed for the step after reset, is run by it. -/
theorem test_withFetchWord : after inspect (State.reset.withFetchWord 16 0x10A9) =
    some (snap 0x8002#16 0x10#8 0x00#8 0x00#8 0xFD#8 0x20#8) := by decide

/-! ### Witnesses: the hypotheses of each statement, met by a concrete state and operands -/

theorem witness_LdaLoadsAccumulator : opcodeAt (placed 0xFFFF#16 [0xA9#8, 0x10#8]) = 0xA9#8 := by decide
theorem witness_LdxLoadsX : opcodeAt (placed 0xFFFF#16 [0xA2#8, 0x10#8]) = 0xA2#8 := by decide
theorem witness_LdyLoadsY : opcodeAt (placed 0xFFFF#16 [0xA0#8, 0x10#8]) = 0xA0#8 := by decide
theorem witness_StaZeroPageStoresAccumulator : opcodeAt (placed 0xFFFF#16 [0x85#8, 0xFF#8]) = 0x85#8 := by decide
theorem witness_StaAbsoluteStoresAccumulator : opcodeAt (placed 0xFFFF#16 [0x8D#8, 0xFF#8, 0xFF#8]) = 0x8D#8 := by decide
theorem witness_InxIncrementsX : opcodeAt (placed 0xFFFF#16 [0xE8#8]) = 0xE8#8 := by decide
theorem witness_AdcAddsWithCarry : opcodeAt (placed 0xFFFF#16 [0x69#8, 0xFF#8]) = 0x69#8 := by decide
theorem witness_SbcSubtractsAndKeepsCarry : opcodeAt (placed 0xFFFF#16 [0xE9#8, 0xFF#8]) = 0xE9#8 := by decide
theorem witness_PhaPushesAccumulator : opcodeAt (placed 0xFFFF#16 [0x48#8]) = 0x48#8 := by decide
theorem witness_PlaPullsAccumulator : opcodeAt (placed 0xFFFF#16 [0x68#8]) = 0x68#8 := by decide
theorem witness_JsrPushesReturnAddressAndJumps : opcodeAt (placed 0xFFFF#16 [0x20#8, 0xFF#8, 0xFF#8]) = 0x20#8 := by decide
theorem witness_RtsReturnsPastPulledWord : opcodeAt (placed 0xFFFF#16 [0x60#8]) = 0x60#8 := by decide
theorem witness_BrkHaltsAndChangesNothing : opcodeAt (placed 0xFFFF#16 [0x00#8]) = 0x00#8 ∧
    ∃ t, step (placed 0xFFFF#16 [0x00#8]) = .next t ∧ t.outcome = some .halt := ⟨by decide, _, rfl, rfl⟩
theorem witness_UnknownOpcodesReportAndContinue :
    Instr.unknown01.unknownByte = some 0x01#8 ∧ Instr.unknownFF.unknownByte = some 0xFF#8 ∧
    opcodeAt (placed 0x8000#16 [0x01#8]) ∉ thirteen ∧ opcodeAt (placed 0xFFFF#16 [0xFF#8]) ∉ thirteen := by decide

/-- The state whose steps the witnesses below take: a JSR to itself at `0x8000`. -/
def loop : State := placed 0x8000#16 [0x20#8, 0x00#8, 0x80#8]

theorem witness_StepRunsDecodedInstruction :
    decode [byteAt loop 0, byteAt loop 1, byteAt loop 2] = .ok (.jsr 0x8000#16, []) ∧
    (Instr.jsr 0x8000#16).wf = true := ⟨rfl, rfl⟩

theorem witness_StepOutcomeGivenByOpcode :
    (∃ t, step loop = .next t ∧ opcodeAt loop ∈ thirteen ∧ opcodeAt loop ≠ 0x00#8) ∧
    (∃ t, step (placed 0#16 [0x00#8]) = .next t ∧ opcodeAt (placed 0#16 [0x00#8]) = 0x00#8) ∧
    (∃ t, step (placed 0#16 [0xFF#8]) = .next t ∧ opcodeAt (placed 0#16 [0xFF#8]) ∉ thirteen) :=
  ⟨⟨_, rfl, by decide, by decide⟩, ⟨_, rfl, by decide⟩, ⟨_, rfl, by decide⟩⟩

theorem witness_DecodeOfEncode : (Instr.staAbs 0xFFFF#16).wf = true := rfl

theorem witness_EncodeOfDecode : decode [0x20#8, 0x09#8, 0x80#8, 0xE8#8] = .ok (.jsr 0x8009#16, [0xE8#8]) := rfl

theorem witness_OpcodeByteTellsLength :
    decode [0xA9#8, 0x00#8] = .ok (.lda 0x00#8, []) ∧ decode [0x20#8, 0x00#8, 0x80#8] = .ok (.jsr 0x8000#16, []) ∧
    decode [0xAD#8, 0x00#8] = .ok (.unknownAD, [0x00#8]) := ⟨rfl, rfl, rfl⟩

theorem witness_OperandsAssembled :
    (0x85#8, Instr.staZp) ∈ byteOperandForms ∧ opcodeAt (placed 0xFFFF#16 [0x85#8, 0xFF#8]) = 0x85#8 ∧
    (0x20#8, Instr.jsr) ∈ wordOperandForms ∧ opcodeAt loop = 0x20#8 ∧
    lengthOfOpcode (opcodeAt (placed 0xFFFF#16 [0xE8#8])) = 1 :=
  ⟨by simp [byteOperandForms], by decide, by simp [wordOperandForms], by decide, by decide⟩

theorem witness_PushStoresThenDecrements : (List.replicate 256 0x00#8 : List Byte).length = 256 :=
  List.length_replicate ..

theorem witness_SetZNAndItsCallers :
    (∃ t, exec (.lda 0x80#8) loop = .next t ∧ znDestination t (.lda 0x80#8) = some 0x80#8) ∧
    (∃ t, exec .pha loop = .next t ∧ znDestination t .pha = none) := ⟨⟨_, rfl, rfl⟩, ⟨_, rfl, rfl⟩⟩

theorem witness_ReservedStatusBitsPreserved : ∃ t, step loop = .next t := ⟨_, rfl⟩

/-- Carry set by an ADC, and cleared by one. -/
theorem witness_CarryWrittenOnlyByAdc :
    (∃ t, exec (.adc 0xFF#8) { loop with a := 0x01#8 } = .next t ∧ loop.status.getLsbD 0 = false ∧
      t.status.getLsbD 0 = true) ∧
    (∃ t, exec (.adc 0x00#8) { loop with status := 0x21#8 } = .next t ∧ (0x21#8).getLsbD 0 = true ∧
      t.status.getLsbD 0 = false) ∧
    (∃ t, exec (.sbc 0xFF#8) loop = .next t ∧ ∀ imm, Instr.sbc 0xFF#8 ≠ .adc imm) :=
  ⟨⟨_, rfl, by decide, by decide⟩, ⟨_, rfl, by decide, by decide⟩, ⟨_, rfl, by intro imm h; cases h⟩⟩

theorem witness_StackPointerMovedOnlyByStackInstructions :
    (∃ t, exec .pha { loop with sp := 0x00#8 } = .next t) ∧ (∃ t, exec .pla { loop with sp := 0xFF#8 } = .next t) ∧
    (∃ t, exec (.jsr 0#16) { loop with sp := 0x01#8 } = .next t) ∧
    (∃ t, exec .rts { loop with sp := 0xFE#8 } = .next t) ∧
    (∃ t, exec .inx loop = .next t ∧ Instr.inx ≠ .pha ∧ Instr.inx ≠ .pla ∧ (∀ w, Instr.inx ≠ .jsr w) ∧
      Instr.inx ≠ .rts) :=
  ⟨⟨_, rfl⟩, ⟨_, rfl⟩, ⟨_, rfl⟩, ⟨_, rfl⟩, ⟨_, rfl, by decide, by decide, (fun _ h => nomatch h), by decide⟩⟩

theorem witness_ProgramCounterAfterStep :
    (∃ t, step loop = .next t ∧ opcodeAt loop = 0x20#8) ∧
    (∃ t, step (placed 0#16 [0x60#8]) = .next t ∧ opcodeAt (placed 0#16 [0x60#8]) = 0x60#8) ∧
    (∃ t, step (placed 0xFFFF#16 [0xA9#8, 0x00#8]) = .next t ∧
      opcodeAt (placed 0xFFFF#16 [0xA9#8, 0x00#8]) ≠ 0x20#8 ∧
      opcodeAt (placed 0xFFFF#16 [0xA9#8, 0x00#8]) ≠ 0x60#8) :=
  ⟨⟨_, rfl, by decide⟩, ⟨_, rfl, by decide⟩, ⟨_, rfl, by decide, by decide⟩⟩

/-- Each kind of store changes a byte. -/
theorem witness_MemoryChangedOnlyByStores :
    (∃ t, step { placed 0xFFFF#16 [0x85#8, 0x00#8] with a := 0x01#8 } = .next t ∧
      t.mem.read 0x0000#16 ≠ (placed 0xFFFF#16 [0x85#8, 0x00#8]).mem.read 0x0000#16) ∧
    (∃ t, step (placed 0x8000#16 [0x8D#8, 0x02#8, 0x80#8]) = .next t ∧
      t.mem.read 0x8002#16 ≠ (placed 0x8000#16 [0x8D#8, 0x02#8, 0x80#8]).mem.read 0x8002#16) ∧
    (∃ t, step (placed 0x01FD#16 [0x48#8]) = .next t ∧
      t.mem.read 0x01FD#16 ≠ (placed 0x01FD#16 [0x48#8]).mem.read 0x01FD#16) ∧
    (∃ t, step (placed 0x01FB#16 [0x20#8, 0x00#8, 0x90#8]) = .next t ∧
      t.mem.read 0x01FC#16 ≠ (placed 0x01FB#16 [0x20#8, 0x00#8, 0x90#8]).mem.read 0x01FC#16) :=
  ⟨⟨_, rfl, by decide⟩, ⟨_, rfl, by decide⟩, ⟨_, rfl, by decide⟩, ⟨_, rfl, by decide⟩⟩

theorem witness_XAndYInfluenceNothingElse :
    (∃ t, step loop = .next t ∧ opcodeAt loop ≠ 0xE8#8) ∧
    (∃ t, step (placed 0#16 [0xA2#8, 0x01#8]) = .next t ∧ opcodeAt (placed 0#16 [0xA2#8, 0x01#8]) ≠ 0xE8#8) ∧
    (∃ t, step (placed 0#16 [0xA0#8, 0x01#8]) = .next t) ∧
    (∃ t, step (placed 0xFFFF#16 [0xE8#8]) = .next t ∧ opcodeAt (placed 0xFFFF#16 [0xE8#8]) = 0xE8#8) :=
  ⟨⟨_, rfl, by decide⟩, ⟨_, rfl, by decide⟩, ⟨_, rfl⟩, ⟨_, rfl, by decide⟩⟩

theorem witness_ZeroAndNegativeInfluenceNothingElse :
    AgreeButZN loop { loop with status := 0xA2#8 } ∧ ∃ t, step loop = .next t := by
  refine ⟨⟨rfl, rfl, rfl, rfl, rfl, rfl, ?_⟩, ⟨_, rfl⟩⟩
  intro k h1 h7
  by_cases hk : k < 8
  · interval_cases k <;> first | rfl | contradiction
  · rw [BitVec.getLsbD_of_ge _ _ (by omega), BitVec.getLsbD_of_ge _ _ (by omega)]

theorem witness_StepKeepsInvariant : loop.Inv ∧ ∃ t, step loop = .next t :=
  ⟨⟨by decide, by decide, by decide⟩, ⟨_, rfl⟩⟩

/-- A load, a reset, a run and its first step lead to a reachable state with another status than reset's. -/
theorem witness_ReachableStatusHasSixValues :
    ∃ t, Reachable t ∧ t.status = 0x22#8 := by
  have h1 : Session.start.command (.load [0xA9#8, 0x00#8]) =
      .next ⟨State.reset.setMem (State.reset.mem.load 0x8000#16 [0xA9#8, 0x00#8]), .idle⟩ := rfl
  have h2 := ((Session.Reachable.start.command _ h1).command .reset rfl).command (.run false) rfl
  exact ⟨_, ⟨_, h2.advance (Session.advance_running false rfl), rfl⟩, by decide⟩

/-- During a run the host cannot write memory; before it, it can. -/
theorem witness_HostActsOnlyBetweenRuns :
    (⟨loop, .running true⟩ : Session).phase = .running true ∧ Session.start.phase = .idle ∧
    ∃ n, Session.start.command (.write 65535 0x1FF) = .next n := ⟨rfl, rfl, _, rfl⟩

theorem witness_SessionFollowsRunLoop :
    (⟨loop, .running false⟩ : Session).phase = .running false ∧ (⟨loop, .idle⟩ : Session).phase = .idle := ⟨rfl, rfl⟩

theorem witness_HostOperationsKeepInvariant :
    loop.Inv ∧ (∃ t, hostLoad [0xA9#8, 0x07#8] 0xFFFE#16 loop = .next t) ∧ (∃ t, hostWrite 65535 0x1FF loop = .next t) :=
  ⟨⟨by decide, by decide, by decide⟩, ⟨_, if_pos (by decide)⟩, ⟨_, if_pos (by decide)⟩⟩

/-- A run in progress that finds a BRK has returned after it. -/
theorem test_session_halts :
    (match (⟨placed 0x8000#16 [0x00#8], .running true⟩ : Session).advance with
      | .next n => some (n.machine.pc, n.phase)
      | _ => none) = some (0x8001#16, .idle) := by decide

theorem witness_StoreSeenByNextFetch :
    ∃ t, opcodeAt (placed 0x8000#16 [0x8D#8, 0x03#8, 0x80#8]) = 0x8D#8 ∧
      (byteAt (placed 0x8000#16 [0x8D#8, 0x03#8, 0x80#8]) 2).toNat * 256 +
        (byteAt (placed 0x8000#16 [0x8D#8, 0x03#8, 0x80#8]) 1).toNat = (0x8000 + 3) % 65536 ∧
      step (placed 0x8000#16 [0x8D#8, 0x03#8, 0x80#8]) = .next t := ⟨_, by decide, by decide, rfl⟩

theorem witness_StackIsLastInFirstOut : ([0x11#8, 0x22#8, 0x33#8] : List Byte).length ≤ 256 := by decide

/-- A JSR at `0xFFFD`, then the state it left with an RTS at its target. -/
theorem witness_JsrRtsRoundTrip :
    ∃ t, step (placed 0xFFFD#16 [0x20#8, 0x00#8, 0x90#8]) = .next t ∧
      opcodeAt (placed 0xFFFD#16 [0x20#8, 0x00#8, 0x90#8]) = 0x20#8 ∧
      opcodeAt (t.memWrite 0x9000#16 0x60#8) = 0x60#8 ∧ (t.memWrite 0x9000#16 0x60#8).sp = t.sp ∧
      (t.memWrite 0x9000#16 0x60#8).mem.read (stackAddr 0xFD#8) = t.mem.read (stackAddr 0xFD#8) ∧
      (t.memWrite 0x9000#16 0x60#8).mem.read (stackAddr (0xFD#8 - 1#8)) = t.mem.read (stackAddr (0xFD#8 - 1#8)) :=
  ⟨_, rfl, by decide, by decide, by decide, by decide, by decide⟩

theorem witness_SbcIsAdcOfComplement :
    (∃ t u, exec (.sbc 0x01#8) loop = .next t ∧ exec (.adc (~~~0x01#8)) loop = .next u) ∧
    (∃ t, loop.status.getLsbD 0 = false ∧ exec (.adc 0#8) loop = .next t) ∧
    (∃ t, ({ loop with status := 0x21#8 } : State).status.getLsbD 0 = true ∧
      exec (.sbc 0#8) { loop with status := 0x21#8 } = .next t) :=
  ⟨⟨_, _, rfl, rfl⟩, ⟨_, by decide, rfl⟩, ⟨_, by decide, rfl⟩⟩

theorem witness_ResetIsIdempotent :
    (loop.setA 0x55#8).mem.read 0xFFFC#16 = loop.mem.read 0xFFFC#16 ∧
    (loop.setA 0x55#8).mem.read 0xFFFD#16 = loop.mem.read 0xFFFD#16 := ⟨rfl, rfl⟩

/-- An image that ends exactly at the top of the space, one that covers the vector, and the place of a byte of it. -/
theorem witness_LoadCopiesImageAndWritesVector :
    (0xFFFE#16).toNat + ([0xA9#8, 0x07#8] : List Byte).length ≤ 65536 ∧
    (0xFFFA#16).toNat + ([1#8, 2#8, 3#8, 4#8, 5#8, 6#8] : List Byte).length ≤ 65536 ∧
    (0xFFFA#16).toNat + 1 ≠ 0xFFFC ∧ (0xFFFA#16).toNat + 1 ≠ 0xFFFD ∧
    ((0xFFF9#16).toNat < (0xFFFA#16).toNat) ∧ 0xFFF9#16 ≠ 0xFFFC#16 ∧ 0xFFF9#16 ≠ 0xFFFD#16 := by decide

theorem witness_LoadPastEndRefused : 65536 < (0xFFFF#16).toNat + ([0xA9#8, 0x07#8] : List Byte).length := by decide

theorem witness_HostReadsAndWritesBytes : 65535 < 65536 ∧ 0 < 65536 ∧ 0 ≠ 65535 := by decide

theorem witness_OutOfBoundsOnlyFromTheHost : 65536 ≤ 65536 := by decide

theorem witness_BootStartsAtLoadAddress : ∃ t, hostLoad [0xA9#8, 0x07#8] 0xFFFE#16 State.reset = .next t :=
  ⟨_, if_pos (by decide)⟩

theorem witness_FetchWordPlacedByBoot : ∃ t, hostLoadDefault (tableBytes 16 0x10A9) State.reset = .next t := by
  unfold hostLoadDefault hostLoad
  exact ⟨_, if_pos (by decide)⟩

/-- A run of one BRK halts, and the state it started from is the first with that opcode. -/
theorem witness_RunEndsExactlyAtFirstBrk :
    (run true 1 (placed 0#16 [0x00#8])).ended = .halted ∧ Steps 0 (placed 0#16 [0x00#8]) (placed 0#16 [0x00#8]) ∧
    opcodeAt (placed 0#16 [0x00#8]) = 0x00#8 ∧
    (∀ j v, j < 0 → Steps j (placed 0#16 [0x00#8]) v → opcodeAt v ≠ 0x00#8) ∧ 0 < 1 :=
  ⟨by decide, .none _, by decide, fun _ _ h => absurd h (by omega), by omega⟩

/-- What every state on the path of the JSR to itself keeps: its `pc` and its three bytes. -/
def Looping (s : State) : Prop :=
  s.pc = 0x8000#16 ∧ s.mem.read 0x8000#16 = 0x20#8 ∧ s.mem.read 0x8001#16 = 0x00#8 ∧ s.mem.read 0x8002#16 = 0x80#8

theorem stackAddr_ne_program (sp : Byte) (a : Addr) (h : 512 ≤ a.toNat) : a ≠ stackAddr sp := by
  intro e
  have h1 := congrArg BitVec.toNat e
  have h2 := sp.isLt
  rw [stackAddr_toNat] at h1
  omega

theorem looping_step {s t : State} (h : Looping s) (hs : step s = .next t) : Looping t := by
  obtain ⟨hp, h0, h1, h2⟩ := h
  have e : opcodeEntry (s.mem.read s.pc) = .abs .jsr := by rw [hp, h0, opcodeEntry_jsr]
  rw [step, fetchInstr_abs e] at hs
  obtain rfl := Host.Outcome.next.inj hs
  refine ⟨?_, ?_, ?_, ?_⟩
  · simp [hp, h1, h2, makeWord]
  all_goals
    simp only [State.continued_mem, State.setPc_mem, push_mem, push_sp]
    rw [Memory.read_write_other _ _ (stackAddr_ne_program _ _ (by decide)),
      Memory.read_write_other _ _ (stackAddr_ne_program _ _ (by decide))]
    assumption

theorem looping_steps {k : Nat} {s u : State} (h : Looping s) (hs : Steps k s u) : Looping u := by
  induction hs with
  | none => exact h
  | more h1 _ ih => exact ih (looping_step h h1)

/-- No opcode on the path of the JSR to itself is `0x00`. -/
theorem witness_RunWithoutBrkNeverEnds : ∀ k u, Steps k loop u → opcodeAt u ≠ 0x00#8 := by
  intro k u hs
  obtain ⟨hp, h0, -, -⟩ := looping_steps (s := loop) ⟨rfl, by decide, by decide, by decide⟩ hs
  rw [opcodeAt, hp, h0]
  decide

theorem witness_RunResumesAfterHalt :
    ∃ t, opcodeAt (placed 0xFFFF#16 [0x00#8]) = 0x00#8 ∧ step (placed 0xFFFF#16 [0x00#8]) = .next t :=
  ⟨_, by decide, rfl⟩

end Sys2Proof.Tests
end

/-! What an instruction can do to `status`, said once; and that bits 2 to 6 are written by reset only (R20). -/

namespace Sys2Proof.Machine

/-! ### The flag updates change only the bits they name -/

theorem setZN_bit_other (status v : Byte) {k : Nat} (h1 : k ≠ 1) (h7 : k ≠ 7) :
    (setZN status v).getLsbD k = status.getLsbD k := by
  rw [setZN_bit, if_neg h1, if_neg h7]

theorem setCarry_bit_other (status : Byte) (c : Bool) {k : Nat} (h0 : k ≠ 0) :
    (setCarry status c).getLsbD k = status.getLsbD k := by
  rw [setCarry_bit, if_neg h0]

/-! ### What an instruction and a step do to `status` -/

/-- Everything `exec` can do to `status`: nothing, SetZN alone, or ADC's carry update and then SetZN. -/
theorem exec_status_cases {i : Instr} {s t : State} (h : exec i s = .next t) :
    t.status = s.status ∨ (∃ v, t.status = setZN s.status v) ∨
    (∃ b v, i = .adc b ∧
      t.status = setZN (setCarry s.status (decide (adcSum s.a b (carryIn s.status) > 255))) v) := by
  rcases exec_next_cases h with ⟨b, -, rfl⟩ | ⟨b, -, rfl⟩ | ⟨b, -, rfl⟩ | ⟨b, -, rfl⟩ | ⟨w, -, rfl⟩ | ⟨-, rfl⟩ |
    ⟨b, hi, rfl⟩ | ⟨b, -, rfl⟩ | ⟨-, rfl⟩ | ⟨-, rfl⟩ | ⟨w, -, rfl⟩ | ⟨-, rfl⟩ | ⟨-, rfl⟩ | ⟨op, -, rfl⟩
  · exact .inr (.inl ⟨_, rfl⟩) -- LDA #
  · exact .inr (.inl ⟨_, rfl⟩) -- LDX #
  · exact .inr (.inl ⟨_, rfl⟩) -- LDY #
  · exact .inl rfl -- STA zp
  · exact .inl rfl -- STA abs
  · exact .inr (.inl ⟨_, rfl⟩) -- INX
  · exact .inr (.inr ⟨b, _, hi, rfl⟩) -- ADC #
  · exact .inr (.inl ⟨_, rfl⟩) -- SBC #
  · exact .inl rfl -- PHA
  · exact .inr (.inl ⟨_, rfl⟩) -- PLA
  · exact .inl rfl -- JSR
  · exact .inl rfl -- RTS
  · exact .inl rfl -- BRK
  · exact .inl rfl -- an unknown opcode

/-- No instruction writes bits 2 to 6 of `status`. -/
theorem exec_status_reserved {i : Instr} {s t : State} (h : exec i s = .next t) {k : Nat} (h2 : 2 ≤ k) (h6 : k ≤ 6) :
    t.status.getLsbD k = s.status.getLsbD k := by
  have h0 : k ≠ 0 := by omega
  have h1 : k ≠ 1 := by omega
  have h7 : k ≠ 7 := by omega
  obtain hst | ⟨v, hst⟩ | ⟨b, v, -, hst⟩ := exec_status_cases h
  · rw [hst]
  · rw [hst, setZN_bit_other _ _ h1 h7]
  · rw [hst, setZN_bit_other _ _ h1 h7, setCarry_bit_other _ _ h0]

/-- Nor does a step: the fetch before it moves `pc` alone. -/
theorem step_status_reserved {s t : State} (h : step s = .next t) {k : Nat} (h2 : 2 ≤ k) (h6 : k ≤ 6) :
    t.status.getLsbD k = s.status.getLsbD k := by
  obtain ⟨i, -, hstep⟩ := step_eq_exec s
  rw [hstep] at h
  simpa only [State.setPc_status] using exec_status_reserved h h2 h6

/-- Settles O30: every step keeps the reserved bits, since its only updates of `status` are SetZN and ADC's carry
update; reset writes the constant `0x20`. -/
theorem reservedStatusBitsPreserved : Obligations.ReservedStatusBitsPreserved := by
  unfold Obligations.ReservedStatusBitsPreserved
  refine ⟨fun s t h k h2 h6 => step_status_reserved h h2 h6, fun s => ?_,
    fun st v k h1 h7 => setZN_bit_other st v h1 h7, fun st c k h0 => setCarry_bit_other st c h0⟩
  rw [resetCore_status]
  decide

end Sys2Proof.Machine

/-! What the decoder can answer, said once; the length its first byte tells (R60) and the operand of each format, decoded
and fetched (R52). -/

namespace Sys2Proof

/-! ### The decoder, format by format -/

theorem decode_imp {op : Byte} {i : Instr} (h : opcodeEntry op = .imp i) (rest : List Byte) :
    decode (op :: rest) = .ok (i, rest) := by
  simp [decode, h]

theorem decode_imm {op : Byte} {make : Byte → Instr} (h : opcodeEntry op = .imm make) (b : Byte) (rest : List Byte) :
    decode (op :: b :: rest) = .ok (make b, rest) := by
  simp [decode, h]

theorem decode_zp {op : Byte} {make : Byte → Instr} (h : opcodeEntry op = .zp make) (b : Byte) (rest : List Byte) :
    decode (op :: b :: rest) = .ok (make b, rest) := by
  simp [decode, h]

theorem decode_abs {op : Byte} {make : Addr → Instr} (h : opcodeEntry op = .abs make) (b1 b2 : Byte)
    (rest : List Byte) : decode (op :: b1 :: b2 :: rest) = .ok (make (makeWord b2 b1), rest) := by
  simp [decode, h]

/-- Everything the decoder can answer: if it gives an instruction, one of these cases holds. -/
theorem decode_ok_cases {bs : List Byte} {i : Instr} {rest : List Byte} (h : decode bs = .ok (i, rest)) :
    ∃ op, (opcodeEntry op = .imp i ∧ bs = op :: rest) ∨
      (∃ make b, opcodeEntry op = .imm make ∧ i = make b ∧ bs = op :: b :: rest) ∨
      (∃ make b, opcodeEntry op = .zp make ∧ i = make b ∧ bs = op :: b :: rest) ∨
      (∃ make b1 b2, opcodeEntry op = .abs make ∧ i = make (makeWord b2 b1) ∧ bs = op :: b1 :: b2 :: rest) := by
  cases bs with
  | nil => cases h
  | cons op tail =>
    refine ⟨op, ?_⟩
    cases hop : opcodeEntry op with
    | imp j =>
      rw [decode_imp hop] at h
      cases h
      exact .inl ⟨rfl, rfl⟩
    | imm make =>
      cases tail with
      | nil => simp [decode, hop] at h
      | cons b tail =>
        rw [decode_imm hop] at h
        cases h
        exact .inr (.inl ⟨make, b, rfl, rfl, rfl⟩)
    | zp make =>
      cases tail with
      | nil => simp [decode, hop] at h
      | cons b tail =>
        rw [decode_zp hop] at h
        cases h
        exact .inr (.inr (.inl ⟨make, b, rfl, rfl, rfl⟩))
    | abs make =>
      match tail with
      | [] | [_] => simp [decode, hop] at h
      | b1 :: b2 :: tail =>
        rw [decode_abs hop] at h
        cases h
        exact .inr (.inr (.inr ⟨make, b1, b2, rfl, rfl, rfl⟩))

/-- What decodes is the encoding of the instruction it decodes to, followed by the bytes left over. -/
theorem encode_append_of_decode {bs : List Byte} {i : Instr} {rest : List Byte} (h : decode bs = .ok (i, rest)) :
    encode i ++ rest = bs := by
  obtain ⟨op, hcases⟩ := decode_ok_cases h
  have henc := opcodeEntry_encodes op
  obtain ⟨hop, rfl⟩ | ⟨make, b, hop, rfl, rfl⟩ | ⟨make, b, hop, rfl, rfl⟩ | ⟨make, b1, b2, hop, rfl, rfl⟩ := hcases <;>
    rw [hop] at henc
  · obtain ⟨hopcode, hbytes⟩ := henc -- IMP
    simp [encode, hopcode, hbytes]
  · obtain ⟨hopcode, hbytes⟩ := henc b -- IMM
    simp [encode, hopcode, hbytes]
  · obtain ⟨hopcode, hbytes⟩ := henc b -- ZP
    simp [encode, hopcode, hbytes]
  · obtain ⟨hopcode, hbytes⟩ := henc (makeWord b2 b1) -- ABS
    simp [encode, hopcode, hbytes]

/-! ### The length of an instruction -/

theorem Instr.length_eq (i : Instr) : i.length = i.operandBytes.length + 1 := rfl

/-- Every instruction is as long as R60 says of its opcode byte. -/
theorem Instr.length_eq_lengthOfOpcode (i : Instr) : i.length = lengthOfOpcode i.opcode := by
  rw [← opcodeEntry_length, Instr.length_eq]
  obtain ⟨hop, hbytes⟩ | ⟨make, b, hop, -, hbytes⟩ | ⟨make, b, hop, -, hbytes⟩ | ⟨make, w, hop, -, hbytes⟩ :=
    opcodeEntry_opcode i <;> rw [hop, hbytes] <;> rfl

/-- Settles O21: what decodes is an instruction's encoding, which begins with the opcode and is as long as the opcode's
entry in the grid says. -/
theorem opcodeByteTellsLength : Obligations.OpcodeByteTellsLength := by
  unfold Obligations.OpcodeByteTellsLength
  intro b0 bs i rest h
  have hbytes : i.opcode :: (i.operandBytes ++ rest) = b0 :: bs := encode_append_of_decode h
  obtain ⟨rfl, rfl⟩ := List.cons.inj hbytes
  refine ⟨?_, ?_⟩
  · rw [Instr.length_eq_lengthOfOpcode]
    simp only [lengthOfOpcode, List.mem_cons, List.not_mem_nil, or_false]
  · rw [Instr.length_eq, List.length_append]
    omega

end Sys2Proof

namespace Sys2Proof.Machine

open Sys2Proof.Claims

/-! ### The fetch of an operand -/

/-- The six opcodes with an operand byte have an entry of format IMM or ZP. -/
theorem opcodeEntry_of_byteOperandForms :
    ∀ p ∈ byteOperandForms, opcodeEntry p.1 = .imm p.2 ∨ opcodeEntry p.1 = .zp p.2 := by
  simp [byteOperandForms]

/-- The two opcodes with an operand word have an entry of format ABS. -/
theorem opcodeEntry_of_wordOperandForms : ∀ p ∈ wordOperandForms, opcodeEntry p.1 = .abs p.2 := by
  simp [wordOperandForms]

theorem fetchInstr_byteOperand {s : State} {make : Byte → Instr}
    (h : opcodeEntry (opcodeAt s) = .imm make ∨ opcodeEntry (opcodeAt s) = .zp make) :
    fetchInstr s = (make (fetchByte (fetchByte s).2).1, (fetchByte (fetchByte s).2).2) := by
  obtain h | h := h
  · rw [fetchInstr_imm h]; simp [BitVec.add_assoc]
  · rw [fetchInstr_zp h]; simp [BitVec.add_assoc]

theorem fetchInstr_wordOperand {s : State} {make : Addr → Instr} (h : opcodeEntry (opcodeAt s) = .abs make) :
    fetchInstr s = (make (fetchWord (fetchByte s).2).1, (fetchWord (fetchByte s).2).2) := by
  rw [fetchInstr_abs h]; simp [BitVec.add_assoc]

theorem fetchInstr_noOperand {s : State} (h : lengthOfOpcode (opcodeAt s) = 1) :
    (fetchInstr s).2 = (fetchByte s).2 := by
  obtain ⟨-, hpc⟩ := fetchInstr_spec s
  rw [hpc, ← opcodeAt, h, fetchByte_snd]

/-- Settles O24: the entry of each of the thirteen opcodes gives its format, and the format how the decoder assembles the
operand and how the fetch obtains it. -/
theorem operandsAssembled : Obligations.OperandsAssembled := by
  unfold Obligations.OperandsAssembled
  refine ⟨fun b rest => ?imm, fun b rest => ?zp, fun b1 b2 rest => ?abs, fun rest => ?imp, ?byteOperand, ?wordOperand,
    fun s h => fetchInstr_noOperand h⟩
  case imm =>
    exact ⟨decode_imm opcodeEntry_lda b rest, decode_imm opcodeEntry_ldx b rest, decode_imm opcodeEntry_ldy b rest,
      decode_imm opcodeEntry_adc b rest, decode_imm opcodeEntry_sbc b rest⟩
  case zp => exact ⟨decode_zp opcodeEntry_staZp b rest, zeroPageAddr_toNat b⟩
  case abs =>
    exact ⟨makeWord b2 b1, makeWord_toNat b2 b1, decode_abs opcodeEntry_staAbs b1 b2 rest,
      decode_abs opcodeEntry_jsr b1 b2 rest⟩
  case imp =>
    exact ⟨decode_imp opcodeEntry_inx rest, decode_imp opcodeEntry_pha rest, decode_imp opcodeEntry_pla rest,
      decode_imp opcodeEntry_rts rest, decode_imp opcodeEntry_brk rest⟩
  case byteOperand =>
    rintro s _ make hform rfl
    exact fetchInstr_byteOperand (opcodeEntry_of_byteOperandForms _ hform)
  case wordOperand =>
    rintro s _ make hform rfl
    exact fetchInstr_wordOperand (opcodeEntry_of_wordOperandForms _ hform)

end Sys2Proof.Machine

/-! What FetchByte, FetchWord, Push and Pop do to the machine, one at a time and several in a row (R71 to R74). -/

namespace Sys2Proof.Machine

open Sys2Proof.Claims

/-! ### The fetch unit -/

/-- FetchBytes in a row move `pc` by their number and change nothing else. -/
theorem iterate_fetchByte (n : Nat) (s : State) :
    (fun u => (fetchByte u).2)^[n] s = s.setPc (s.pc + BitVec.ofNat 16 n) := by
  induction n with
  | zero => rw [BitVec.add_zero]; rfl
  | succ n ih => rw [Function.iterate_succ_apply', ih, fetchByte_snd, State.setPc_setPc, State.setPc_pc,
      BitVec.add_assoc, BitVec.ofNat_add]

/-- Settles O25: the fetch moves `pc` past the instruction, and so do as many FetchBytes as it has bytes. -/
theorem fetchByteReadsAndAdvances : Obligations.FetchByteReadsAndAdvances := by
  unfold Obligations.FetchByteReadsAndAdvances
  refine ⟨fun s => ⟨fetchByte_fst s, ?_, rfl⟩, fun s => ?_⟩
  · rw [fetchByte_snd, State.setPc_pc, BitVec.toNat_add]
    rfl
  · obtain ⟨hop, hpc⟩ := fetchInstr_spec s
    rw [iterate_fetchByte, hpc, Instr.length_eq_lengthOfOpcode, hop]

/-- Settles O26: the word of the two bytes is the number `high*256 + low`. -/
theorem fetchWordIsLittleEndian : Obligations.FetchWordIsLittleEndian := by
  unfold Obligations.FetchWordIsLittleEndian
  refine fun s => ⟨makeWord_toNat _ _, rfl, ?_⟩
  rw [fetchWord_snd, State.setPc_pc, BitVec.toNat_add]
  rfl

/-! ### The stack unit -/

/-- Pushes in a row move `sp` down by their number, modulo 256. -/
theorem pushAll_sp (vs : List Byte) (s : State) : (pushAll vs s).sp = s.sp - BitVec.ofNat 8 vs.length := by
  induction vs generalizing s with
  | nil => exact (BitVec.sub_zero s.sp).symm
  | cons v vs ih =>
    rw [pushAll, ih, push_sp, List.length_cons, BitVec.ofNat_add]
    ring

/-- Settles O27: a push writes the one cell of the old `sp`, and 256 pushes move `sp` by 256, which is 0 modulo 256. -/
theorem pushStoresThenDecrements : Obligations.PushStoresThenDecrements := by
  unfold Obligations.PushStoresThenDecrements
  refine ⟨stackAddr_toNat, fun v s => ⟨?same, fun b hb => ?other, ?sp, ⟨rfl, rfl, rfl, rfl⟩, rfl⟩,
    fun vs s hlen => ?around⟩
  case same => rw [push_mem, Memory.read_write_same]
  case other => rw [push_mem, Memory.read_write_other _ _ hb]
  case sp => rw [push_sp, BitVec.toNat_sub, Nat.add_comm]; rfl
  case around => rw [pushAll_sp, hlen, show BitVec.ofNat 8 256 = 0#8 from rfl, BitVec.sub_zero]

/-- The stack pointer a pop after a push reads at is the one the push wrote at, at every `sp`. -/
theorem push_sp_add_one (v : Byte) (s : State) : (push v s).sp + 1#8 = s.sp := by
  rw [push_sp, BitVec.sub_add_cancel]

/-- Settles O28: after a push the incremented `sp` is the old one, whose cell holds the byte pushed. -/
theorem popIncrementsThenReads : Obligations.PopIncrementsThenReads := by
  unfold Obligations.PopIncrementsThenReads
  refine ⟨fun s => ⟨?sp, rfl, fun _ => rfl, ⟨rfl, rfl, rfl, rfl⟩, rfl⟩, fun v s => ⟨?byte, push_sp_add_one v s⟩⟩
  case sp => rw [pop_snd, State.setSp_sp, BitVec.toNat_add]; rfl
  case byte => rw [pop_fst, push_sp_add_one, push_mem, Memory.read_write_same]

end Sys2Proof.Machine

/-! What a step answers, told by the opcode at `pc` (R76, R79); and that it reads no output of the step before it. -/

namespace Sys2Proof.Machine

open Sys2Proof.Claims

/-! ### The outputs -/

/-- Everything `exec` can answer, told by the opcode: Halt for `0x00`, the opcode's cost for the other twelve, the
report for every other byte. -/
theorem exec_result_cases (i : Instr) (s : State) : ∃ u : State,
    (i.opcode = 0x00#8 ∧ exec i s = .next u.halted) ∨
    (i.opcode ∈ thirteen ∧ i.opcode ≠ 0x00#8 ∧ exec i s = .next (u.continued i.opcode)) ∨
    (i.opcode ∉ thirteen ∧ exec i s = .next (u.reported i.opcode)) := by
  induction i using Instr.cases_unknown
  case brk => exact ⟨s, .inl ⟨rfl, rfl⟩⟩
  case unknown i op hop =>
    obtain ⟨rfl, hnot⟩ := Instr.opcode_of_unknownByte hop
    exact ⟨s, .inr (.inr ⟨hnot, exec_of_unknownByte hop s⟩)⟩
  all_goals exact ⟨_, .inr (.inl ⟨of_decide_eq_true rfl, of_decide_eq_true rfl, rfl⟩)⟩

/-- Everything a step can answer, told by the opcode at `pc`. -/
theorem step_result_cases (s : State) : ∃ u : State,
    (opcodeAt s = 0x00#8 ∧ step s = .next u.halted) ∨
    (opcodeAt s ∈ thirteen ∧ opcodeAt s ≠ 0x00#8 ∧ step s = .next (u.continued (opcodeAt s))) ∨
    (opcodeAt s ∉ thirteen ∧ step s = .next (u.reported (opcodeAt s))) := by
  obtain ⟨i, hop, hstep⟩ := step_eq_exec s
  rw [hstep, opcodeAt, ← hop]
  exact exec_result_cases i _

/-- Settles O16: whatever the opcode, the step answers a next state that has an outcome. -/
theorem everyStepCompletes : Obligations.EveryStepCompletes := by
  unfold Obligations.EveryStepCompletes
  intro s
  have hanswer : ∃ t, step s = .next t ∧ t.outcome ≠ none := by
    obtain ⟨u, ⟨-, h⟩ | ⟨-, -, h⟩ | ⟨-, h⟩⟩ := step_result_cases s
    · exact ⟨_, h, Option.some_ne_none _⟩
    · exact ⟨_, h, Option.some_ne_none _⟩
    · exact ⟨_, h, Option.some_ne_none _⟩
  obtain ⟨t, h, hout⟩ := hanswer
  exact ⟨t, h, hout, fun t' h' => Host.Outcome.next.inj (h'.symm.trans h)⟩

/-! ### What no step reads -/

/-- The fetch hands the outputs of the last step on as they are. -/
theorem fetchInstr_setOutput (s : State) (o : Option StepOutcome) (r : Option Byte) :
    fetchInstr (s.setOutput o r) = ((fetchInstr s).1, (fetchInstr s).2.setOutput o r) := by
  cases h : opcodeEntry (s.mem.read s.pc) with
  | imp i => rw [fetchInstr_imp h]; exact fetchInstr_imp h
  | imm make => rw [fetchInstr_imm h]; exact fetchInstr_imm h
  | zp make => rw [fetchInstr_zp h]; exact fetchInstr_zp h
  | abs make => rw [fetchInstr_abs h]; exact fetchInstr_abs h

/-- No instruction reads the outputs of the last step. -/
theorem exec_setOutput (i : Instr) (s : State) (o : Option StepOutcome) (r : Option Byte) :
    exec i (s.setOutput o r) = exec i s := by
  induction i using Instr.cases_unknown
  case unknown i op hop => rw [exec_of_unknownByte hop, exec_of_unknownByte hop]; rfl
  all_goals rfl

theorem step_setOutput (s : State) (o : Option StepOutcome) (r : Option Byte) : step (s.setOutput o r) = step s := by
  rw [step, fetchInstr_setOutput, exec_setOutput, step]

/-- Settles O17: the three answers of a step, one for each kind of opcode, exclude each other. -/
theorem stepOutcomeGivenByOpcode : Obligations.StepOutcomeGivenByOpcode := by
  unfold Obligations.StepOutcomeGivenByOpcode
  refine ⟨fun s t hstep => ?_, step_setOutput⟩
  obtain ⟨u, ⟨hop, h⟩ | ⟨hop, hne, h⟩ | ⟨hop, h⟩⟩ := step_result_cases s <;>
    obtain rfl := Host.Outcome.next.inj (hstep.symm.trans h)
  · -- BRK
    have hmem : opcodeAt s ∈ thirteen := by rw [hop]; decide
    exact ⟨by simp [hop], fun _ => rfl, fun _ hne => absurd hop hne, fun hnot => absurd hmem hnot⟩
  · -- the other twelve
    exact ⟨by simp [hne], fun _ => rfl, fun _ _ => ⟨_, PNat.pos _, rfl, rfl⟩, fun hnot => absurd hop hnot⟩
  · -- an unknown opcode
    have hne : opcodeAt s ≠ 0x00#8 := fun h0 => hop (by rw [h0]; decide)
    exact ⟨by simp [hne], fun hmem => absurd hmem hop, fun hmem => absurd hmem hop, fun _ => ⟨rfl, rfl⟩⟩

end Sys2Proof.Machine

/-! SetZN in its two forms, and which instructions call it (R75). -/

namespace Sys2Proof.Machine

open Sys2Proof.Claims

/-! ### The flag unit -/

/-- SetZN as the one assignment of R75, with the masks `0x7D`, `0x80` and `0x02`. -/
theorem setZN_eq_masks (st v : Byte) :
    setZN st v = (st &&& 0x7D#8) ||| (v &&& 0x80#8) ||| (if v = 0#8 then 0x02#8 else 0x00#8) := by
  apply BitVec.eq_of_getLsbD_eq
  intro k hk
  rw [setZN_bit]
  by_cases hv : v = 0#8 <;> interval_cases k <;> simp [hv]

theorem znFrom_setZN (st v : Byte) : ZNFrom st (setZN st v) v :=
  ⟨setZN_bit st v 1, setZN_bit st v 7, fun _ h1 h7 => setZN_bit_other st v h1 h7⟩

/-! ### Its callers -/

/-- An unknown opcode has no destination. -/
theorem znDestination_of_unknownByte {i : Instr} {op : Byte} (h : i.unknownByte = some op) (t : State) :
    znDestination t i = none := by
  cases i
  all_goals first
    | rfl
    | cases h

/-- An instruction with a destination ends in SetZN of the byte it wrote there; every other one leaves `status`. -/
theorem exec_znDestination_cases {i : Instr} {s t : State} (h : exec i s = .next t) :
    (∃ v st, znDestination t i = some v ∧ t.status = setZN st v) ∨
    (znDestination t i = none ∧ t.status = s.status) := by
  rcases exec_next_cases h with ⟨b, rfl, rfl⟩ | ⟨b, rfl, rfl⟩ | ⟨b, rfl, rfl⟩ | ⟨b, rfl, rfl⟩ | ⟨w, rfl, rfl⟩ |
    ⟨rfl, rfl⟩ | ⟨b, rfl, rfl⟩ | ⟨b, rfl, rfl⟩ | ⟨rfl, rfl⟩ | ⟨rfl, rfl⟩ | ⟨w, rfl, rfl⟩ | ⟨rfl, rfl⟩ | ⟨rfl, rfl⟩ |
    ⟨op, hop, rfl⟩
  · exact .inl ⟨_, _, rfl, rfl⟩ -- LDA #
  · exact .inl ⟨_, _, rfl, rfl⟩ -- LDX #
  · exact .inl ⟨_, _, rfl, rfl⟩ -- LDY #
  · exact .inr ⟨rfl, rfl⟩ -- STA zp
  · exact .inr ⟨rfl, rfl⟩ -- STA abs
  · exact .inl ⟨_, _, rfl, rfl⟩ -- INX
  · exact .inl ⟨_, _, rfl, rfl⟩ -- ADC #
  · exact .inl ⟨_, _, rfl, rfl⟩ -- SBC #
  · exact .inr ⟨rfl, rfl⟩ -- PHA
  · exact .inl ⟨_, _, rfl, rfl⟩ -- PLA
  · exact .inr ⟨rfl, rfl⟩ -- JSR
  · exact .inr ⟨rfl, rfl⟩ -- RTS
  · exact .inr ⟨rfl, rfl⟩ -- BRK
  · exact .inr ⟨znDestination_of_unknownByte hop _, rfl⟩ -- an unknown opcode

/-- Settles O29: SetZN's two bits are those of its value, and the instructions with a destination are its callers. -/
theorem setZNAndItsCallers : Obligations.SetZNAndItsCallers := by
  unfold Obligations.SetZNAndItsCallers
  refine ⟨fun s v => znFrom_setZN s.status v, setZN_eq_masks, fun i s t h => ?_⟩
  obtain ⟨v, st, hdest, hst⟩ | ⟨hdest, hst⟩ := exec_znDestination_cases h
  · refine ⟨fun v' hv' => ?_, fun hnone => nomatch hdest.symm.trans hnone⟩
    obtain rfl := Option.some.inj (hdest.symm.trans hv')
    obtain ⟨hz, hn, -⟩ := znFrom_setZN st v
    rw [hst]
    exact ⟨hz, hn⟩
  · refine ⟨fun v hv => (nomatch hdest.symm.trans hv), fun _ => ?_⟩
    rw [hst]
    exact ⟨rfl, rfl⟩

end Sys2Proof.Machine

/-! The load-immediate instructions: the register loaded, its flags, and everything else as before (R90 to R92). -/

namespace Sys2Proof.Machine

open Sys2Proof.Claims

/-! ### A step with an immediate operand -/

/-- A step that finds an opcode of format IMM runs its instruction on the byte after it, with `pc` past both (R70). -/
theorem step_imm {s : State} {make : Byte → Instr} (h : opcodeEntry (opcodeAt s) = .imm make) :
    step s = exec (make (byteAt s 1)) (s.setPc (s.pc + 2#16)) := by
  rw [step, fetchInstr_imm h, byteAt]

/-- The outputs that `State.continued` sets are those of a completed instruction (R76). -/
theorem continued_continued (s : State) (op : Byte) : Continued (s.continued op) op :=
  ⟨State.continued_outcome s op, State.continued_report s op⟩

/-! ### What each load answers -/

theorem exec_lda (imm : Byte) (s : State) :
    exec (.lda imm) s = .next (((s.setA imm).setZN imm).continued 0xA9#8) := rfl

theorem exec_ldx (imm : Byte) (s : State) :
    exec (.ldx imm) s = .next (((s.setX imm).setZN imm).continued 0xA2#8) := rfl

theorem exec_ldy (imm : Byte) (s : State) :
    exec (.ldy imm) s = .next (((s.setY imm).setZN imm).continued 0xA0#8) := rfl

/-- Settles O1: LDA # writes `a`, then SetZN of the operand, and the outputs; the grid gives `0xA9` the format IMM. -/
theorem ldaLoadsAccumulator : Obligations.LdaLoadsAccumulator := by
  unfold Obligations.LdaLoadsAccumulator
  refine ⟨fun imm s => ⟨_, exec_lda imm s, rfl, ?flags, ⟨rfl, rfl, rfl⟩, rfl, fun _ => rfl, continued_continued _ _⟩,
    fun s hop => step_imm ?format⟩
  case flags => exact znFrom_setZN s.status imm
  case format => rw [hop, opcodeEntry_lda]

/-- Settles O2: LDX # writes `x`, then SetZN of the operand, and the outputs; the grid gives `0xA2` the format IMM. -/
theorem ldxLoadsX : Obligations.LdxLoadsX := by
  unfold Obligations.LdxLoadsX
  refine ⟨fun imm s => ⟨_, exec_ldx imm s, rfl, ?flags, rfl, rfl, rfl, rfl, fun _ => rfl, continued_continued _ _⟩,
    fun s hop => step_imm ?format⟩
  case flags => exact znFrom_setZN s.status imm
  case format => rw [hop, opcodeEntry_ldx]

/-- Settles O3: LDY # writes `y`, then SetZN of the operand, and the outputs; the grid gives `0xA0` the format IMM. -/
theorem ldyLoadsY : Obligations.LdyLoadsY := by
  unfold Obligations.LdyLoadsY
  refine ⟨fun imm s => ⟨_, exec_ldy imm s, rfl, ?flags, rfl, rfl, rfl, rfl, fun _ => rfl, continued_continued _ _⟩,
    fun s hop => step_imm ?format⟩
  case flags => exact znFrom_setZN s.status imm
  case format => rw [hop, opcodeEntry_ldy]

end Sys2Proof.Machine

/-! The stores of the accumulator: the one cell written, and everything else as before (R95, R96). -/

namespace Sys2Proof.Machine

open Sys2Proof.Claims

/-! ### A step with a zero-page or an absolute operand -/

/-- A step that finds an opcode of format ZP runs its instruction on the byte after it, with `pc` past both (R70). -/
theorem step_zp {s : State} {make : Byte → Instr} (h : opcodeEntry (opcodeAt s) = .zp make) :
    step s = exec (make (byteAt s 1)) (s.setPc (s.pc + 2#16)) := by
  rw [step, fetchInstr_zp h, byteAt]

/-- A step that finds an opcode of format ABS runs its instruction on the word of the two bytes after it, low byte
first, with `pc` past all three (R70). -/
theorem step_abs {s : State} {make : Addr → Instr} (h : opcodeEntry (opcodeAt s) = .abs make) :
    step s = exec (make (makeWord (byteAt s 2) (byteAt s 1))) (s.setPc (s.pc + 3#16)) := by
  rw [step, fetchInstr_abs h, byteAt, byteAt]

/-! ### What a store answers -/

theorem exec_staZp (zp : Byte) (s : State) :
    exec (.staZp zp) s = .next ((s.memWrite (zeroPageAddr zp) s.a).continued 0x85#8) := rfl

theorem exec_staAbs (w : Addr) (s : State) :
    exec (.staAbs w) s = .next ((s.memWrite (absoluteAddr w) s.a).continued 0x8D#8) := rfl

/-- A completed instruction whose one effect is a store at `addr`: that cell holds the byte, every other cell and the
six registers are as before. -/
theorem memWrite_continued_frame (s : State) (addr : Addr) (v op : Byte) :
    ((s.memWrite addr v).continued op).mem.read addr = v ∧
    (∀ b, b ≠ addr → ((s.memWrite addr v).continued op).mem.read b = s.mem.read b) ∧
    SameRegs s ((s.memWrite addr v).continued op) ∧ Continued ((s.memWrite addr v).continued op) op := by
  refine ⟨?same, fun b hb => ?other, ⟨⟨rfl, rfl, rfl, rfl⟩, rfl, rfl⟩, continued_continued _ _⟩
  case same => rw [State.continued_mem, State.memWrite_mem, Memory.read_write_same]
  case other => rw [State.continued_mem, State.memWrite_mem, Memory.read_write_other _ _ hb]

/-- Settles O4: STA zp is one store of `a` and the outputs; the grid gives `0x85` the format ZP. -/
theorem staZeroPageStoresAccumulator : Obligations.StaZeroPageStoresAccumulator := by
  unfold Obligations.StaZeroPageStoresAccumulator
  refine ⟨fun zp s => ⟨_, exec_staZp zp s, memWrite_continued_frame s (zeroPageAddr zp) s.a 0x85#8⟩,
    zeroPageAddr_toNat, fun s hop => step_zp ?format⟩
  case format => rw [hop, opcodeEntry_staZp]

/-- Settles O5: STA abs is one store of `a` and the outputs; the grid gives `0x8D` the format ABS, whose fetch assembles
the word before the write. -/
theorem staAbsoluteStoresAccumulator : Obligations.StaAbsoluteStoresAccumulator := by
  unfold Obligations.StaAbsoluteStoresAccumulator
  refine ⟨fun w s => ⟨_, exec_staAbs w s, memWrite_continued_frame s (absoluteAddr w) s.a 0x8D#8⟩,
    fun _ => rfl, fun s hop => ⟨makeWord (byteAt s 2) (byteAt s 1), makeWord_toNat _ _, step_abs ?format⟩⟩
  case format => rw [hop, opcodeEntry_staAbs]

end Sys2Proof.Machine

/-! INX: `x` one more modulo 256, its flags, and everything else as before (R100). -/

namespace Sys2Proof.Machine

open Sys2Proof.Claims

/-- A step that finds an opcode of format IMP runs its instruction with `pc` past the one byte (R70). -/
theorem step_imp {s : State} {i : Instr} (h : opcodeEntry (opcodeAt s) = .imp i) :
    step s = exec i (s.setPc (s.pc + 1#16)) := by
  rw [step, fetchInstr_imp h]

theorem exec_inx (s : State) :
    exec .inx s = .next (((s.setX (s.x + 1#8)).setZN (s.x + 1#8)).continued 0xE8#8) := rfl

/-- Settles O6: INX writes the 8-bit sum `x + 1`, then SetZN of it, which keeps every bit but Zero and Negative, and the
outputs; the grid gives `0xE8` the format IMP. -/
theorem inxIncrementsX : Obligations.InxIncrementsX := by
  unfold Obligations.InxIncrementsX
  refine ⟨fun s => ⟨_, exec_inx s, ?sum, ?flags, rfl, rfl, rfl, rfl, fun _ => rfl, continued_continued _ _⟩,
    fun s hop => step_imp ?format⟩
  case sum => exact BitVec.toNat_add s.x 1#8
  case flags => exact znFrom_setZN s.status (s.x + 1#8)
  case format => rw [hop, opcodeEntry_inx]

end Sys2Proof.Machine

/-! ADC # and SBC #: the exact integer narrowed to a byte, the flags, and everything else as before (R105, R106). -/

namespace Sys2Proof.Machine

open Sys2Proof.Claims

/-! ### What each of the two answers -/

theorem exec_adc (imm : Byte) (s : State) :
    exec (.adc imm) s = .next
      ((((s.setStatus (setCarry s.status (decide (adcSum s.a imm (carryIn s.status) > 255)))).setA
        (BitVec.ofNat 8 (adcSum s.a imm (carryIn s.status)))).setZN
          (BitVec.ofNat 8 (adcSum s.a imm (carryIn s.status)))).continued 0x69#8) := rfl

theorem exec_sbc (imm : Byte) (s : State) :
    exec (.sbc imm) s = .next (((s.setA (BitVec.ofInt 8 (sbcDifference s.a imm (carryIn s.status)))).setZN
      (BitVec.ofInt 8 (sbcDifference s.a imm (carryIn s.status)))).continued 0xE9#8) := rfl

/-! ### The exact integers, in terms of the Carry bit -/

theorem adcSum_carryIn (a m status : Byte) :
    adcSum a m (carryIn status) = a.toNat + m.toNat + (status.getLsbD 0).toNat := by
  rw [adcSum, carryIn_eq]

theorem sbcDifference_carryIn (a m status : Byte) :
    sbcDifference a m (carryIn status) = (a.toNat : Int) - m.toNat - (1 - (status.getLsbD 0).toNat) := by
  rw [sbcDifference, carryIn_eq]

/-- An integer narrowed to a byte is its floor modulus 256, whatever its sign (R106). -/
theorem toNat_ofInt_eq_emod (r : Int) : ((BitVec.ofInt 8 r).toNat : Int) = r % 256 := by
  rw [BitVec.toNat_ofInt]
  exact Int.toNat_of_nonneg (Int.emod_nonneg r (by decide))

/-! ### Carry and SetZN together -/

/-- ADC's two updates of `status` touch disjoint bits: Carry is the one given, Zero and Negative are the byte's, and
every other bit is as before (R105). -/
theorem setZN_setCarry_bits (st v : Byte) (c : Bool) :
    (setZN (setCarry st c) v).getLsbD 0 = c ∧
    (setZN (setCarry st c) v).getLsbD 1 = decide (v = 0#8) ∧
    (setZN (setCarry st c) v).getLsbD 7 = v.getLsbD 7 ∧
    ∀ k, k ≠ 0 → k ≠ 1 → k ≠ 7 → (setZN (setCarry st c) v).getLsbD k = st.getLsbD k := by
  obtain ⟨hzero, hneg, hother⟩ := znFrom_setZN (setCarry st c) v
  refine ⟨?carry, hzero, hneg, fun k h0 h1 h7 => ?rest⟩
  case carry => rw [hother 0 (by decide) (by decide), setCarry_bit, if_pos rfl]
  case rest => rw [hother k h1 h7, setCarry_bit_other st c h0]

/-- Settles O7: ADC # writes the low byte of the exact sum and updates Carry from it, then SetZN of that byte, which
leaves Carry; the grid gives `0x69` the format IMM. -/
theorem adcAddsWithCarry : Obligations.AdcAddsWithCarry := by
  unfold Obligations.AdcAddsWithCarry
  refine ⟨fun imm s => ?answer, fun s hop => step_imm ?format⟩
  case answer =>
    obtain ⟨hcarry, hzero, hneg, hother⟩ := setZN_setCarry_bits s.status
      (BitVec.ofNat 8 (adcSum s.a imm (carryIn s.status))) (decide (adcSum s.a imm (carryIn s.status) > 255))
    rw [← adcSum_carryIn]
    exact ⟨_, exec_adc imm s, BitVec.toNat_ofNat _ 8, hcarry, hzero, hneg, hother, ⟨rfl, rfl, rfl⟩, rfl, fun _ => rfl,
      continued_continued _ _⟩
  case format => rw [hop, opcodeEntry_adc]

/-- Settles O8: SBC # writes the exact difference modulo 256, then SetZN of that byte, which leaves Carry as one of the
bits it does not name; the grid gives `0xE9` the format IMM. -/
theorem sbcSubtractsAndKeepsCarry : Obligations.SbcSubtractsAndKeepsCarry := by
  unfold Obligations.SbcSubtractsAndKeepsCarry
  refine ⟨fun imm s => ⟨_, exec_sbc imm s, ?difference, ?flags, ?carry, ⟨rfl, rfl, rfl⟩, rfl, fun _ => rfl,
    continued_continued _ _⟩, fun s hop => step_imm ?format⟩
  case difference => rw [← sbcDifference_carryIn]; exact toNat_ofInt_eq_emod _
  case flags => exact znFrom_setZN s.status _
  case carry => exact setZN_bit_other s.status _ (by decide) (by decide)
  case format => rw [hop, opcodeEntry_sbc]

end Sys2Proof.Machine

/-! PHA and PLA: the accumulator moved to and from the stack page, and everything else as before (R110, R111). -/

namespace Sys2Proof.Machine

open Sys2Proof.Claims

theorem exec_pha (s : State) : exec .pha s = .next ((push s.a s).continued 0x48#8) := rfl

theorem exec_pla (s : State) :
    exec .pla s = .next ((((pop s).2.setA (pop s).1).setZN (pop s).1).continued 0x68#8) := rfl

/-- Settles O9: PHA is one push of `a`, a store at the cell of the old `sp` (R73), and the outputs; the grid gives `0x48`
the format IMP. -/
theorem phaPushesAccumulator : Obligations.PhaPushesAccumulator := by
  unfold Obligations.PhaPushesAccumulator
  refine ⟨fun s => ⟨_, exec_pha s, ?cell, fun b hb => ?other, rfl, ⟨rfl, rfl, rfl, rfl⟩, rfl, continued_continued _ _⟩,
    fun s hop => step_imp ?format⟩
  case cell => rw [State.continued_mem, push_mem, Memory.read_write_same]
  case other => rw [State.continued_mem, push_mem, Memory.read_write_other _ _ hb]
  case format => rw [hop, opcodeEntry_pha]

/-- Settles O10: PLA is one pop into `a`, from the cell of the incremented `sp` (R74), then SetZN of that byte, which
keeps every bit but Zero and Negative, and the outputs; the grid gives `0x68` the format IMP. -/
theorem plaPullsAccumulator : Obligations.PlaPullsAccumulator := by
  unfold Obligations.PlaPullsAccumulator
  refine ⟨fun s => ⟨_, exec_pla s, pop_fst s, rfl, ?flags, rfl, rfl, rfl, fun _ => rfl, continued_continued _ _⟩,
    fun s hop => step_imp ?format⟩
  case flags => exact znFrom_setZN s.status (pop s).1
  case format => rw [hop, opcodeEntry_pla]

end Sys2Proof.Machine

/-! BRK and the unknown opcodes: the outputs written, and nothing else (R120, R121). -/

namespace Sys2Proof.Machine

open Sys2Proof.Claims

/-! ### What each of the two answers -/

theorem exec_brk (s : State) : exec .brk s = .next s.halted := rfl

/-- A step that finds a byte outside the thirteen reports it, with `pc` past that one byte: the grid gives every such
byte an unknown opcode of format IMP. -/
theorem step_eq_reported_of_notMem_thirteen {s : State} (h : opcodeAt s ∉ thirteen) :
    step s = .next ((s.setPc (s.pc + 1#16)).reported (opcodeAt s)) := by
  obtain ⟨i, hentry, hbyte⟩ := opcodeEntry_unknown h
  rw [step_imp hentry, exec_of_unknownByte hbyte, unknownOpcode]

/-! ### What each of the two leaves unchanged -/

theorem halted_frame (s : State) : SameRegs s s.halted ∧ SameMem s s.halted :=
  ⟨⟨⟨rfl, rfl, rfl, rfl⟩, rfl, rfl⟩, fun _ => rfl⟩

theorem reported_frame (s : State) (op : Byte) : SameRegs s (s.reported op) ∧ SameMem s (s.reported op) :=
  ⟨⟨⟨rfl, rfl, rfl, rfl⟩, rfl, rfl⟩, fun _ => rfl⟩

/-- Settles O14: an unknown opcode writes the outputs alone, so a step that finds one moves `pc` past its byte and
leaves every other register and the memory. -/
theorem unknownOpcodesReportAndContinue : Obligations.UnknownOpcodesReportAndContinue := by
  unfold Obligations.UnknownOpcodesReportAndContinue
  refine ⟨fun i op hbyte s => ?instruction, fun s hnot => ?aStep⟩
  case instruction =>
    exact ⟨_, exec_of_unknownByte hbyte s, State.reported_outcome s op, State.reported_report s op, reported_frame s op⟩
  case aStep =>
    obtain ⟨⟨hregs, hsp, hpc⟩, hmem⟩ := reported_frame (s.setPc (s.pc + 1#16)) (opcodeAt s)
    exact ⟨_, step_eq_reported_of_notMem_thirteen hnot, hpc, hregs, hsp, hmem, State.reported_outcome _ _,
      State.reported_report _ _⟩

/-- Settles O13: BRK writes the outputs alone; the grid gives `0x00` the format IMP, and by R76
(`stepOutcomeGivenByOpcode`) a step halts for no other opcode. -/
theorem brkHaltsAndChangesNothing : Obligations.BrkHaltsAndChangesNothing := by
  unfold Obligations.BrkHaltsAndChangesNothing
  refine ⟨fun s => ⟨_, exec_brk s, State.halted_outcome s, State.halted_report s, halted_frame s⟩,
    fun s hop => step_imp ?format, fun s t hstep hout => ?onlyZero⟩
  case format => rw [hop, opcodeEntry_brk]
  case onlyZero =>
    obtain ⟨houtcome, -⟩ := stepOutcomeGivenByOpcode
    obtain ⟨hhalt, -⟩ := houtcome s t hstep
    exact hhalt.mp hout

end Sys2Proof.Machine

/-! Reset: the six registers, as a function of the two vector bytes alone, and memory as it was (R150 to R152). -/

namespace Sys2Proof.Machine

open Sys2Proof.Claims

/-- Reset takes `pc` from the two vector bytes, low byte first, and reads nothing else of the state (R150). -/
theorem resetCore_pc_eq_makeWord (s : State) :
    (resetCore s).pc = makeWord (s.mem.read 0xFFFD#16) (s.mem.read 0xFFFC#16) := rfl

/-- Settles O45: reset reads `pc` as the word of the vector bytes, and its other five registers are constants. -/
theorem resetSetsRegistersFromVector : Obligations.ResetSetsRegistersFromVector := by
  unfold Obligations.ResetSetsRegistersFromVector
  refine fun s => ⟨?pc, resetCore_sp s, resetCore_a s, resetCore_x s, resetCore_y s, resetCore_status s, fun _ => rfl⟩
  rw [resetCore_pc, Memory.readWord_toNat]

/-- Settles O46: `pc` is the one register that is not a constant, and it is the word of the vector bytes as they stand
in the memory, which reset leaves alone. -/
theorem resetIsIdempotent : Obligations.ResetIsIdempotent := by
  unfold Obligations.ResetIsIdempotent
  refine ⟨fun _ => rfl, fun s s' hlow hhigh => ⟨⟨rfl, rfl, rfl, rfl⟩, rfl, ?sameVector⟩, fun s v w => ?rewrittenVector⟩
  case sameVector => rw [resetCore_pc_eq_makeWord, resetCore_pc_eq_makeWord, hlow, hhigh]
  case rewrittenVector =>
    have hne : (0xFFFC#16 : Addr) ≠ 0xFFFD#16 := by decide
    rw [resetCore_pc_eq_makeWord, State.memWrite_mem, State.memWrite_mem, Memory.read_write_same,
      Memory.read_write_other _ _ hne, Memory.read_write_same]

end Sys2Proof.Machine

/-! The run: it ends at the first step whose opcode is `0x00` and at no other (R156), and where no step has that opcode it
does not end (R164). -/

namespace Sys2Proof.Machine

open Sys2Proof.Claims

/-! ### The two kinds of step -/

theorem step_brk {s : State} (h : opcodeAt s = 0x00#8) : step s = .next (s.setPc (s.pc + 1#16)).halted := by
  rw [step_imp (i := .brk) (by rw [h, opcodeEntry_brk]), exec_brk]

/-- A step with any other opcode completes without Halt (R76, R79). -/
theorem step_of_ne_brk {s : State} (h : opcodeAt s ≠ 0x00#8) : ∃ t, step s = .next t ∧ t.outcome ≠ some .halt := by
  obtain ⟨t, hstep, -, -⟩ := everyStepCompletes s
  obtain ⟨houtcome, -⟩ := stepOutcomeGivenByOpcode
  obtain ⟨hhalt, -⟩ := houtcome s t hstep
  exact ⟨t, hstep, mt hhalt.mp h⟩

/-! ### One iteration of the run -/

@[simp] theorem RunResult.after_final (r : RunResult) (snaps : List Snapshot) (report : Option Byte) :
    (r.after snaps report).final = r.final := rfl
@[simp] theorem RunResult.after_ended (r : RunResult) (snaps : List Snapshot) (report : Option Byte) :
    (r.after snaps report).ended = r.ended := rfl
@[simp] theorem RunResult.after_consumed (r : RunResult) (snaps : List Snapshot) (report : Option Byte) :
    (r.after snaps report).consumed = r.consumed + 1 := rfl

/-- An iteration that finds `0x00` is the last, whatever fuel is left. -/
theorem run_brk {s : State} (debug : Bool) (fuel : Nat) (h : opcodeAt s = 0x00#8) :
    run debug (fuel + 1) s = ⟨(s.setPc (s.pc + 1#16)).halted, .halted, 1, debugSnapshot debug s, []⟩ :=
  run_halt debug fuel (step_brk h) (State.halted_outcome _)

/-! ### The first state on a path with the opcode `0x00` -/

/-- `FirstBrk k s u`: `k` steps lead from `s` to `u`, which has the opcode `0x00`, and no state before `u` has it. -/
def FirstBrk (k : Nat) (s u : State) : Prop :=
  Steps k s u ∧ opcodeAt u = 0x00#8 ∧ ∀ j v, j < k → Steps j s v → opcodeAt v ≠ 0x00#8

theorem FirstBrk.here {s : State} (h : opcodeAt s = 0x00#8) : FirstBrk 0 s s :=
  ⟨.none s, h, fun _ _ hj => absurd hj (Nat.not_lt_zero _)⟩

/-- A step that is no BRK puts the first BRK one step further away. -/
theorem FirstBrk.more {k : Nat} {s t u : State} (hop : opcodeAt s ≠ 0x00#8) (hstep : step s = .next t)
    (h : FirstBrk k t u) : FirstBrk (k + 1) s u := by
  obtain ⟨hsteps, hbrk, hbefore⟩ := h
  refine ⟨.more hstep hsteps, hbrk, fun j v hj hv => ?_⟩
  cases hv with
  | none => exact hop
  | more hstep' hv' =>
    obtain rfl := Host.Outcome.next.inj (hstep.symm.trans hstep')
    exact hbefore _ v (Nat.lt_of_succ_lt_succ hj) hv'

/-- Where the first BRK is one step or more away, the first step is none, and it brings the BRK one step nearer. -/
theorem FirstBrk.succ_inv {k : Nat} {s u : State} (h : FirstBrk (k + 1) s u) :
    ∃ t, step s = .next t ∧ t.outcome ≠ some .halt ∧ FirstBrk k t u := by
  obtain ⟨hsteps, hbrk, hbefore⟩ := h
  have hop : opcodeAt s ≠ 0x00#8 := hbefore 0 s k.succ_pos (.none s)
  obtain ⟨t, hstep, hout⟩ := step_of_ne_brk hop
  cases hsteps with
  | more hstep' hsteps' =>
    obtain rfl := Host.Outcome.next.inj (hstep.symm.trans hstep')
    exact ⟨t, hstep, hout, hsteps', hbrk, fun j v hj hv => hbefore (j + 1) v (Nat.succ_lt_succ hj) (.more hstep hv)⟩

/-! ### The run ends there, and nowhere else -/

/-- A run with fuel enough ends at the first BRK on its path, in the state after that BRK. -/
theorem run_of_firstBrk (debug : Bool) {n k : Nat} {s u : State} (h : FirstBrk k s u) (hn : k < n) :
    (run debug n s).ended = .halted ∧ (run debug n s).consumed = k + 1 ∧
      (run debug n s).final = (u.setPc (u.pc + 1#16)).halted := by
  induction k generalizing n s with
  | zero =>
    obtain ⟨fuel, rfl⟩ := Nat.exists_eq_add_one.mpr hn
    obtain ⟨hsteps, hbrk, -⟩ := h
    cases hsteps
    rw [run_brk debug fuel hbrk]
    exact ⟨rfl, rfl, rfl⟩
  | succ k ih =>
    obtain ⟨fuel, rfl⟩ := Nat.exists_eq_add_one.mpr (Nat.zero_lt_of_lt hn)
    obtain ⟨t, hstep, hout, hfirst⟩ := h.succ_inv
    obtain ⟨hended, hconsumed, hfinal⟩ := ih hfirst (Nat.lt_of_succ_lt_succ hn)
    rw [run_go debug fuel hstep hout, RunResult.after_ended, RunResult.after_consumed, RunResult.after_final, hconsumed]
    exact ⟨hended, rfl, hfinal⟩

/-- A run that halted has a first BRK on its path, within its fuel. -/
theorem exists_firstBrk_of_halted {debug : Bool} {n : Nat} {s : State} (h : (run debug n s).ended = .halted) :
    ∃ k u, k < n ∧ FirstBrk k s u := by
  induction n generalizing s with
  | zero => cases h
  | succ fuel ih =>
    by_cases hop : opcodeAt s = 0x00#8
    · exact ⟨0, s, fuel.succ_pos, .here hop⟩
    · obtain ⟨t, hstep, hout⟩ := step_of_ne_brk hop
      rw [run_go debug fuel hstep hout, RunResult.after_ended] at h
      obtain ⟨k, u, hk, hfirst⟩ := ih h
      exact ⟨k + 1, u, Nat.succ_lt_succ hk, hfirst.more hop hstep⟩

/-- Settles O54: a run that halted has a first BRK within its fuel, and a run ends at the first BRK on its path, in the
state that BRK leaves: `pc` one further and Halt as the outcome. -/
theorem runEndsExactlyAtFirstBrk : Obligations.RunEndsExactlyAtFirstBrk := by
  unfold Obligations.RunEndsExactlyAtFirstBrk
  refine ⟨fun debug n s hhalted => ?ends, fun debug n k s u hsteps hbrk hbefore hn => ?reached⟩
  case ends =>
    obtain ⟨k, u, hk, hfirst⟩ := exists_firstBrk_of_halted hhalted
    obtain ⟨-, hconsumed, hfinal⟩ := run_of_firstBrk debug hfirst hk
    obtain ⟨⟨hregs, hsp, hpc⟩, hmem⟩ := halted_frame (u.setPc (u.pc + 1#16))
    obtain ⟨hsteps, hbrk, hbefore⟩ := hfirst
    rw [hfinal]
    exact ⟨k, u, hk, hsteps, hbrk, hbefore, hconsumed, hpc, hregs, hsp, hmem, State.halted_outcome _⟩
  case reached =>
    obtain ⟨hended, hconsumed, -⟩ := run_of_firstBrk debug ⟨hsteps, hbrk, hbefore⟩ hn
    exact ⟨hended, hconsumed⟩

/-- Settles O55, by induction on the fuel: each iteration finds an opcode other than `0x00` and so goes on, and the path
from the next state has none either. -/
theorem runWithoutBrkNeverEnds : Obligations.RunWithoutBrkNeverEnds := by
  unfold Obligations.RunWithoutBrkNeverEnds
  intro s hpath debug n
  induction n generalizing s with
  | zero => exact ⟨rfl, rfl, .none s⟩
  | succ fuel ih =>
    obtain ⟨t, hstep, hout⟩ := step_of_ne_brk (hpath 0 s (.none s))
    obtain ⟨hended, hconsumed, hsteps⟩ := ih t fun k u hu => hpath (k + 1) u (.more hstep hu)
    rw [run_go debug fuel hstep hout, RunResult.after_ended, RunResult.after_consumed, RunResult.after_final, hconsumed]
    exact ⟨hended, rfl, .more hstep hsteps⟩

end Sys2Proof.Machine

/-! Decoding and encoding are inverse to each other, and the decoder refuses only what ends too soon (R50, R54, R60). -/

namespace Sys2Proof

/-! ### The two directions of the round trip -/

/-- The bytes of an instruction decode to it, whatever follows them: its opcode's entry has its format, and reads its
operand back from its own operand bytes. -/
theorem decode_encode_append (i : Instr) (rest : List Byte) : decode (encode i ++ rest) = .ok (i, rest) := by
  obtain ⟨hop, hbytes⟩ | ⟨make, b, hop, hi, hbytes⟩ | ⟨make, b, hop, hi, hbytes⟩ | ⟨make, w, hop, hi, hbytes⟩ :=
    opcodeEntry_opcode i <;> rw [encode, hbytes]
  · exact decode_imp hop rest -- IMP
  · exact (decode_imm hop b rest).trans (by rw [← hi]) -- IMM
  · exact (decode_zp hop b rest).trans (by rw [← hi]) -- ZP
  · exact (decode_abs hop (lowByte w) (highByte w) rest).trans (by rw [makeWord_high_low, ← hi]) -- ABS

/-- Settles O19: every instruction is well formed, and each of the four formats reads back what it wrote. -/
theorem decodeOfEncode : Obligations.DecodeOfEncode := by
  unfold Obligations.DecodeOfEncode
  exact fun i rest _ => decode_encode_append i rest

/-- Settles O20: what decodes is the entry's instruction, whose encoding is the bytes it was made from. -/
theorem encodeOfDecode : Obligations.EncodeOfDecode := by
  unfold Obligations.EncodeOfDecode
  exact fun _ _ _ h => ⟨rfl, encode_append_of_decode h⟩

/-! ### Which byte strings decode -/

/-- What is left over after an instruction is what its first byte's length does not account for. -/
theorem length_of_decode {b0 : Byte} {tail : List Byte} {i : Instr} {rest : List Byte}
    (h : decode (b0 :: tail) = .ok (i, rest)) : tail.length + 1 = lengthOfOpcode b0 + rest.length := by
  have hbytes := encode_append_of_decode h
  obtain ⟨rfl, -⟩ := List.cons.inj hbytes
  have hlen := congrArg List.length hbytes
  rw [List.length_append, List.length_cons] at hlen
  rw [← hlen, ← Instr.length_eq_lengthOfOpcode, Instr.length]

/-- A byte string with as many bytes as its first byte calls for decodes. -/
theorem exists_decode_of_length {b0 : Byte} {tail : List Byte} (h : lengthOfOpcode b0 ≤ tail.length + 1) :
    ∃ i rest, decode (b0 :: tail) = .ok (i, rest) := by
  rw [← opcodeEntry_length] at h
  cases hop : opcodeEntry b0 with
  | imp i => exact ⟨_, _, decode_imp hop tail⟩
  | imm make =>
    cases tail with
    | nil => simp [hop, Entry.length] at h
    | cons b rest => exact ⟨_, _, decode_imm hop b rest⟩
  | zp make =>
    cases tail with
    | nil => simp [hop, Entry.length] at h
    | cons b rest => exact ⟨_, _, decode_zp hop b rest⟩
  | abs make =>
    match tail with
    | [] | [_] => simp [hop, Entry.length] at h
    | b1 :: b2 :: rest => exact ⟨_, _, decode_abs hop b1 b2 rest⟩

/-- A byte string that is not empty is refused exactly if its first byte calls for more bytes. -/
theorem decode_cons_error_iff (b0 : Byte) (tail : List Byte) :
    (∃ e, decode (b0 :: tail) = .error e) ↔ tail.length + 1 < lengthOfOpcode b0 := by
  refine ⟨fun ⟨e, he⟩ => ?short, fun hshort => ?refused⟩
  case short =>
    by_contra hlong
    obtain ⟨i, rest, hok⟩ := exists_decode_of_length (Nat.le_of_not_lt hlong)
    cases he.symm.trans hok
  case refused =>
    cases hdec : decode (b0 :: tail) with
    | error e => exact ⟨e, rfl⟩
    | ok p =>
      have := length_of_decode (i := p.1) (rest := p.2) hdec
      omega

/-- A byte string is one whole instruction exactly if it has the length its first byte calls for. -/
theorem decode_whole_iff (bs : List Byte) : (∃ i, decode bs = .ok (i, [])) ↔ encodingWf bs = true := by
  cases bs with
  | nil => exact ⟨fun ⟨_, h⟩ => (nomatch h), fun h => (nomatch h)⟩
  | cons b0 tail =>
    rw [encodingWf, beq_iff_eq]
    refine ⟨fun ⟨i, h⟩ => length_of_decode h, fun hlen => ?_⟩
    obtain ⟨i, rest, hdec⟩ := exists_decode_of_length hlen.ge
    have hrest : rest.length = 0 := by have := length_of_decode hdec; omega
    obtain rfl := List.length_eq_zero_iff.mp hrest
    exact ⟨i, hdec⟩

/-- Settles O22: a byte string decodes exactly if it has the bytes its first byte calls for, and those are all of it
exactly if nothing is left over. -/
theorem decoderRefusesOnlyMissingBytes : Obligations.DecoderRefusesOnlyMissingBytes := by
  unfold Obligations.DecoderRefusesOnlyMissingBytes
  refine ⟨fun bs => ?_, decode_whole_iff⟩
  cases bs with
  | nil => exact ⟨fun _ => .inl rfl, fun _ => ⟨_, rfl⟩⟩
  | cons b0 tail =>
    rw [decode_cons_error_iff]
    refine ⟨fun h => .inr ⟨b0, tail, rfl, h⟩, ?_⟩
    rintro (h | ⟨_, _, h, hshort⟩)
    · cases h
    · cases h; exact hshort

/-- Settles O23: the grid gives every byte outside the thirteen its unknown opcode, and an unknown opcode carries none of
the thirteen. -/
theorem otherBytesDecodeAsUnknown : Obligations.OtherBytesDecodeAsUnknown := by
  unfold Obligations.OtherBytesDecodeAsUnknown
  refine fun b0 rest => ⟨fun ⟨i, _, hbyte⟩ => ?notThirteen, fun hnot => ?decodes⟩
  case notThirteen =>
    obtain ⟨-, hnot⟩ := Instr.opcode_of_unknownByte hbyte
    exact hnot
  case decodes =>
    obtain ⟨i, hentry, hbyte⟩ := opcodeEntry_unknown hnot
    exact ⟨i, decode_imp hentry rest, hbyte⟩

/-- Settles O18: each word's first byte has the entry of its format, and the word of two bytes has the low one first. -/
theorem writtenWordsDecode : Obligations.WrittenWordsDecode := by
  unfold Obligations.WrittenWordsDecode
  exact ⟨decode_imm opcodeEntry_lda _ _, decode_imp opcodeEntry_inx _, decode_imp opcodeEntry_brk _,
    decode_abs opcodeEntry_staAbs _ _ _, decode_zp opcodeEntry_staZp _ _, decode_abs opcodeEntry_jsr _ _ _,
    decode_imp (i := .unknownEA) rfl _⟩

end Sys2Proof

namespace Sys2Proof.Machine

open Sys2Proof.Claims

/-- Settles O15: decoding the bytes at `pc` gives the instruction the fetch gives, and the fetch moves `pc` by its length
alone. -/
theorem stepRunsDecodedInstruction : Obligations.StepRunsDecodedInstruction := by
  unfold Obligations.StepRunsDecodedInstruction
  intro s i rest hdec _
  obtain ⟨rest', hfetch⟩ := decode_eq_fetchInstr s
  obtain ⟨hopcode, hpc⟩ := fetchInstr_spec s
  have hbyte : byteAt s 0 = s.mem.read s.pc := by rw [byteAt, BitVec.add_zero]
  rw [hbyte] at hdec
  obtain ⟨rfl, -⟩ := Prod.mk.inj (Except.ok.inj (hfetch.symm.trans hdec))
  rw [step, hpc, Instr.length_eq_lengthOfOpcode, hopcode]

end Sys2Proof.Machine

/-! What an instruction can do to memory and to the registers that the claims over the whole machine are about, said once;
and the invariant, kept by every step and by the host between runs (R14, R17, R25, R43, R81). -/

namespace Sys2Proof.Machine

open Sys2Proof.Claims

/-! ### What an instruction and a step do to memory -/

/-- Everything `exec` can do to memory: nothing, the one write of STA or PHA, or the two of JSR. -/
theorem exec_mem_cases {i : Instr} {s t : State} (h : exec i s = .next t) :
    t.mem = s.mem ∨
    (∃ b, i = .staZp b ∧ t.mem = s.mem.write (zeroPageAddr b) s.a) ∨
    (∃ w, i = .staAbs w ∧ t.mem = s.mem.write (absoluteAddr w) s.a) ∨
    (i = .pha ∧ t.mem = s.mem.write (stackAddr s.sp) s.a) ∨
    (∃ w, i = .jsr w ∧ t.mem = (s.mem.write (stackAddr s.sp) (highByte (s.pc - 1#16))).write
      (stackAddr (s.sp - 1#8)) (lowByte (s.pc - 1#16))) := by
  rcases exec_next_cases h with ⟨b, -, rfl⟩ | ⟨b, -, rfl⟩ | ⟨b, -, rfl⟩ | ⟨b, hi, rfl⟩ | ⟨w, hi, rfl⟩ | ⟨-, rfl⟩ |
    ⟨b, -, rfl⟩ | ⟨b, -, rfl⟩ | ⟨hi, rfl⟩ | ⟨-, rfl⟩ | ⟨w, hi, rfl⟩ | ⟨-, rfl⟩ | ⟨-, rfl⟩ | ⟨op, -, rfl⟩
  · exact .inl rfl -- LDA #
  · exact .inl rfl -- LDX #
  · exact .inl rfl -- LDY #
  · exact .inr (.inl ⟨b, hi, rfl⟩) -- STA zp
  · exact .inr (.inr (.inl ⟨w, hi, rfl⟩)) -- STA abs
  · exact .inl rfl -- INX
  · exact .inl rfl -- ADC #
  · exact .inl rfl -- SBC #
  · exact .inr (.inr (.inr (.inl ⟨hi, rfl⟩))) -- PHA
  · exact .inl rfl -- PLA
  · exact .inr (.inr (.inr (.inr ⟨w, hi, rfl⟩))) -- JSR
  · exact .inl rfl -- RTS
  · exact .inl rfl -- BRK
  · exact .inl rfl -- an unknown opcode

/-- No instruction leaves the canonical form of memory. -/
theorem exec_keeps_wf {i : Instr} {s t : State} (h : exec i s = .next t) (hwf : s.mem.wf = true) :
    t.mem.wf = true := by
  obtain hm | ⟨b, -, hm⟩ | ⟨w, -, hm⟩ | ⟨-, hm⟩ | ⟨w, -, hm⟩ := exec_mem_cases h <;> rw [hm]
  · exact hwf
  · exact Memory.wf_write _ _ hwf
  · exact Memory.wf_write _ _ hwf
  · exact Memory.wf_write _ _ hwf
  · exact Memory.wf_write _ _ (Memory.wf_write _ _ hwf)

/-- The instruction a step runs, its opcode known: the fetch hands on memory and every register but `pc`. -/
theorem step_eq_exec_of_next {s t : State} (h : step s = .next t) :
    ∃ i, i.opcode = opcodeAt s ∧
      exec i (s.setPc (s.pc + BitVec.ofNat 16 (lengthOfOpcode (opcodeAt s)))) = .next t := by
  obtain ⟨i, hop, hstep⟩ := step_eq_exec s
  exact ⟨i, hop, hstep.symm.trans h⟩

/-! ### The invariant -/

/-- SetZN never leaves Zero and Negative both 1: a byte whose bit 7 is set is not zero. -/
theorem setZN_not_zero_and_negative (st v : Byte) :
    ¬ ((setZN st v).getLsbD 1 = true ∧ (setZN st v).getLsbD 7 = true) := by
  obtain ⟨hzero, hneg, -⟩ := znFrom_setZN st v
  rw [hzero, hneg, decide_eq_true_eq]
  exact fun ⟨h0, h7⟩ => ne_zero_of_bit7 h7 h0

/-- Nor does an instruction. -/
theorem exec_keeps_notZeroAndNegative {i : Instr} {s t : State} (h : exec i s = .next t)
    (hzn : s.notZeroAndNegative) : t.notZeroAndNegative := by
  obtain hst | ⟨v, hst⟩ | ⟨b, v, -, hst⟩ := exec_status_cases h <;> rw [State.notZeroAndNegative, hst]
  · exact hzn
  · exact setZN_not_zero_and_negative _ v
  · exact setZN_not_zero_and_negative _ v

/-- The reserved bits of a status byte are its bits 2 to 6. -/
theorem and_reserved_eq_of_bits {st st' : Byte}
    (h : ∀ k, 2 ≤ k → k ≤ 6 → st'.getLsbD k = st.getLsbD k) : st' &&& 0x7C#8 = st &&& 0x7C#8 := by
  apply BitVec.eq_of_getLsbD_eq
  intro k hk
  rw [BitVec.getLsbD_and, BitVec.getLsbD_and]
  have hmask : ∀ j < 8, (2 ≤ j ∧ j ≤ 6) ∨ (0x7C#8).getLsbD j = false := by decide
  obtain ⟨h2, h6⟩ | hzero := hmask k hk
  · rw [h k h2 h6]
  · rw [hzero, Bool.and_false, Bool.and_false]

/-- Every instruction keeps the invariant. -/
theorem exec_keeps_inv {i : Instr} {s t : State} (h : exec i s = .next t) (hinv : s.Inv) : t.Inv := by
  obtain ⟨hwf, hres, hzn⟩ := hinv
  refine ⟨exec_keeps_wf h hwf, ?_, exec_keeps_notZeroAndNegative h hzn⟩
  rw [State.reservedAsReset, and_reserved_eq_of_bits fun k h2 h6 => exec_status_reserved h h2 h6]
  exact hres

/-- Settles O37: the fetch moves `pc` alone, which the invariant does not speak of, and every instruction keeps it. -/
theorem stepKeepsInvariant : Obligations.StepKeepsInvariant := by
  unfold Obligations.StepKeepsInvariant
  intro s t hinv hstep
  obtain ⟨i, -, hexec⟩ := step_eq_exec_of_next hstep
  exact exec_keeps_inv hexec hinv

/-- A reset gives the invariant to every machine whose memory is in canonical form. -/
theorem resetCore_inv {s : State} (hwf : s.mem.wf = true) : (resetCore s).Inv :=
  ⟨hwf, by rw [State.reservedAsReset, resetCore_status]; decide,
    by rw [State.notZeroAndNegative, resetCore_status]; decide⟩

/-- Settles O38: the state after reset is a reset of the empty memory. -/
theorem invariantAtReset : Obligations.InvariantAtReset := by
  unfold Obligations.InvariantAtReset
  rw [← State.reset_eq_resetCore]
  exact resetCore_inv Memory.wf_nil

/-! ### The host's operations -/

/-- A load that completes ended within memory, and changed memory alone (R46). -/
theorem hostLoad_eq_next {bytes : List Byte} {start : Addr} {s t : State} :
    hostLoad bytes start s = .next t ↔ start.toNat + bytes.length ≤ 65536 ∧ t = s.setMem (s.mem.load start bytes) := by
  rw [hostLoad, Config.memSize]
  split
  case isTrue hfits => simp [hfits, eq_comm]
  case isFalse hpast => simp [hpast]

/-- A host write that completes had an address of the space, and wrote that one cell (R47). -/
theorem hostWrite_eq_next {addr value : Nat} {s t : State} :
    hostWrite addr value s = .next t ↔
      addr < 65536 ∧ t = s.memWrite (BitVec.ofNat 16 addr) (BitVec.ofNat 8 value) := by
  rw [hostWrite, Config.memSize]
  split
  case isTrue hin => simp [hin, eq_comm]
  case isFalse hout => simp [hout]

theorem hostLoad_keeps_inv {bytes : List Byte} {start : Addr} {s t : State} (hinv : s.Inv)
    (h : hostLoad bytes start s = .next t) : t.Inv := by
  obtain ⟨hwf, hstatus⟩ := hinv
  obtain ⟨-, rfl⟩ := hostLoad_eq_next.mp h
  exact ⟨Memory.wf_load start bytes hwf, hstatus⟩

theorem hostWrite_keeps_inv {addr value : Nat} {s t : State} (hinv : s.Inv)
    (h : hostWrite addr value s = .next t) : t.Inv := by
  obtain ⟨hwf, hstatus⟩ := hinv
  obtain ⟨-, rfl⟩ := hostWrite_eq_next.mp h
  exact ⟨Memory.wf_write _ _ hwf, hstatus⟩

/-- Carry, Zero and Negative are free but for the last two both 1, and the other bits are fixed: six values. -/
theorem status_mem_of_inv {s : State} (hinv : s.Inv) :
    s.status ∈ [0x20#8, 0x21#8, 0x22#8, 0x23#8, 0xA0#8, 0xA1#8] := by
  obtain ⟨-, hres, hzn⟩ := hinv
  have hbytes : ∀ st : Byte, st &&& 0x7C#8 = 0x20#8 → ¬ (st.getLsbD 1 = true ∧ st.getLsbD 7 = true) →
      st ∈ [0x20#8, 0x21#8, 0x22#8, 0x23#8, 0xA0#8, 0xA1#8] := by decide
  exact hbytes s.status hres hzn

/-- Settles O60: a load and a write go through writes of memory, which keep its canonical form, and leave `status`. -/
theorem hostOperationsKeepInvariant : Obligations.HostOperationsKeepInvariant := by
  unfold Obligations.HostOperationsKeepInvariant
  exact ⟨fun _ _ _ _ hinv h => hostLoad_keeps_inv hinv h, fun _ _ _ _ hinv h => hostWrite_keeps_inv hinv h,
    fun _ hwf => resetCore_inv hwf, fun _ hinv => status_mem_of_inv hinv⟩

/-- In every session that the host's commands and its runs lead to, the machine has the invariant. -/
theorem Session.Reachable.inv {m : Session} (h : m.Reachable) : m.machine.Inv := by
  induction h with
  | start => exact invariantAtReset
  | command c _ hc ih =>
    obtain ⟨-, ⟨bytes, start, -, hload, -⟩ | ⟨addr, value, -, hwrite, -⟩ | ⟨-, rfl⟩ | ⟨debug, -, rfl⟩⟩ :=
      Session.command_cases hc
    · exact hostLoad_keeps_inv ih hload
    · exact hostWrite_keeps_inv ih hwrite
    · obtain ⟨hwf, -⟩ := ih
      exact resetCore_inv hwf
    · exact ih
  | advance _ hadv ih =>
    obtain ⟨-, rfl⟩ | ⟨debug, -, hstep, -⟩ := Session.advance_cases hadv
    · exact ih
    · exact stepKeepsInvariant _ _ ih hstep

/-- Settles O39, by induction on the session that reaches the state. -/
theorem reachableStatusHasSixValues : Obligations.ReachableStatusHasSixValues := by
  unfold Obligations.ReachableStatusHasSixValues
  rintro s ⟨m, hm, rfl⟩
  exact ⟨hm.inv, status_mem_of_inv hm.inv⟩

/-! ### Carry -/

/-- An instruction that is not ADC keeps Carry: SetZN does not name it. -/
theorem exec_carry_of_ne_adc {i : Instr} {s t : State} (h : exec i s = .next t) (hi : ∀ imm, i ≠ .adc imm) :
    t.status.getLsbD 0 = s.status.getLsbD 0 := by
  obtain hst | ⟨v, hst⟩ | ⟨b, v, hadc, -⟩ := exec_status_cases h
  · rw [hst]
  · rw [hst, setZN_bit_other _ _ (by decide) (by decide)]
  · exact absurd hadc (hi b)

/-- An ADC makes Carry whether its exact sum exceeds 255, and SetZN leaves it so (R105). -/
theorem exec_carry_of_adc {imm : Byte} {s t : State} (h : exec (.adc imm) s = .next t) :
    t.status.getLsbD 0 = decide (s.a.toNat + imm.toNat + (s.status.getLsbD 0).toNat > 255) := by
  rw [exec_adc] at h
  obtain rfl := Host.Outcome.next.inj h
  rw [← adcSum_carryIn]
  obtain ⟨hcarry, -⟩ := setZN_setCarry_bits s.status (BitVec.ofNat 8 (adcSum s.a imm (carryIn s.status)))
    (decide (adcSum s.a imm (carryIn s.status) > 255))
  exact hcarry

/-- An instruction after which Carry is another is an ADC. -/
theorem exists_adc_of_carry_changed {i : Instr} {s t : State} (h : exec i s = .next t)
    (hne : t.status.getLsbD 0 ≠ s.status.getLsbD 0) : ∃ imm, i = .adc imm := by
  by_contra hnot
  exact hne (exec_carry_of_ne_adc h fun imm hi => hnot ⟨imm, hi⟩)

/-- Settles O31: where Carry changed the instruction was an ADC, whose sum then tells the new Carry. -/
theorem carryWrittenOnlyByAdc : Obligations.CarryWrittenOnlyByAdc := by
  unfold Obligations.CarryWrittenOnlyByAdc
  refine fun i s t h => ⟨exec_carry_of_ne_adc h, ?adc, fun hs ht => ?set, fun hs ht => ?cleared⟩
  case adc => rintro imm rfl; exact exec_carry_of_adc h
  case set =>
    obtain ⟨imm, rfl⟩ := exists_adc_of_carry_changed h (by rw [hs, ht]; decide)
    have hsum := exec_carry_of_adc h
    rw [hs, ht, eq_comm, decide_eq_true_eq] at hsum
    exact ⟨imm, rfl, hsum⟩
  case cleared =>
    obtain ⟨imm, rfl⟩ := exists_adc_of_carry_changed h (by rw [hs, ht]; decide)
    have hsum := exec_carry_of_adc h
    rw [hs, ht, eq_comm, decide_eq_false_iff_not] at hsum
    exact ⟨imm, rfl, Nat.le_of_not_lt hsum⟩

end Sys2Proof.Machine

/-! JSR and RTS, the stack as a last-in first-out store, and which instructions move `sp` and `pc` (R14, R15, R81, R112,
R115 to R117). -/

namespace Sys2Proof.Machine

open Sys2Proof.Claims

/-! ### JSR and RTS -/

theorem exec_jsr (w : Addr) (s : State) :
    exec (.jsr w) s = .next
      (((push (lowByte (s.pc - 1#16)) (push (highByte (s.pc - 1#16)) s)).setPc w).continued 0x20#8) := rfl

theorem exec_rts (s : State) :
    exec .rts s = .next
      (((pop (pop s).2).2.setPc (makeWord (pop (pop s).2).1 (pop s).1 + 1#16)).continued 0x60#8) := rfl

/-- A step that finds `0x20` runs JSR on the word after it, both bytes read before either push (R115). -/
theorem step_jsr {s : State} (h : opcodeAt s = 0x20#8) :
    step s = exec (.jsr (makeWord (byteAt s 2) (byteAt s 1))) (s.setPc (s.pc + 3#16)) :=
  step_abs (by rw [h, opcodeEntry_jsr])

theorem step_rts {s : State} (h : opcodeAt s = 0x60#8) : step s = exec .rts (s.setPc (s.pc + 1#16)) :=
  step_imp (by rw [h, opcodeEntry_rts])

/-- JSR pushes twice. -/
theorem exec_jsr_sp {w : Addr} {s t : State} (h : exec (.jsr w) s = .next t) : t.sp = s.sp - 2#8 := by
  obtain rfl := Host.Outcome.next.inj ((exec_jsr w s).symm.trans h)
  rw [State.continued_sp, State.setPc_sp, push_sp, push_sp, BitVec.sub_sub]
  rfl

/-- JSR puts the two bytes of `pc - 1` in the cells of `sp` and `sp - 1`, the high one first, and no other byte (R115). -/
theorem exec_jsr_cells {w : Addr} {s t : State} (h : exec (.jsr w) s = .next t) :
    t.mem.read (stackAddr s.sp) = highByte (s.pc - 1#16) ∧
    t.mem.read (stackAddr (s.sp - 1#8)) = lowByte (s.pc - 1#16) ∧
    ∀ b, b ≠ stackAddr s.sp → b ≠ stackAddr (s.sp - 1#8) → t.mem.read b = s.mem.read b := by
  have hcells : stackAddr s.sp ≠ stackAddr (s.sp - 1#8) := stackAddr_ne (by bv_omega)
  obtain rfl := Host.Outcome.next.inj ((exec_jsr w s).symm.trans h)
  rw [State.continued_mem, State.setPc_mem, push_mem, push_mem, push_sp]
  refine ⟨?first, Memory.read_write_same _ _ _, fun b hb hb' => ?other⟩
  case first => rw [Memory.read_write_other _ _ hcells, Memory.read_write_same]
  case other => rw [Memory.read_write_other _ _ hb', Memory.read_write_other _ _ hb]

/-- RTS pops twice. -/
theorem exec_rts_sp {s t : State} (h : exec .rts s = .next t) : t.sp = s.sp + 2#8 := by
  obtain rfl := Host.Outcome.next.inj ((exec_rts s).symm.trans h)
  rw [State.continued_sp, State.setPc_sp, pop_snd, pop_snd, State.setSp_sp, State.setSp_sp, BitVec.add_assoc]
  rfl

/-- RTS makes `pc` one past the word of the cells of `sp + 2` and `sp + 1` (R116). -/
theorem exec_rts_pc {s t : State} (h : exec .rts s = .next t) :
    t.pc = makeWord (s.mem.read (stackAddr (s.sp + 2#8))) (s.mem.read (stackAddr (s.sp + 1#8))) + 1#16 := by
  obtain rfl := Host.Outcome.next.inj ((exec_rts s).symm.trans h)
  have hsp : s.sp + 1#8 + 1#8 = s.sp + 2#8 := BitVec.add_assoc s.sp 1#8 1#8
  rw [State.continued_pc, State.setPc_pc, pop_fst, pop_fst, pop_snd, State.setSp_mem, State.setSp_sp, hsp]

/-- The word one past another, as a number (D3). -/
theorem makeWord_add_one_toNat (hi lo : Byte) :
    (makeWord hi lo + 1#16).toNat = (hi.toNat * 256 + lo.toNat + 1) % 65536 := by
  rw [BitVec.toNat_add, makeWord_toNat]
  rfl

/-- Settles O11: JSR is two pushes, of the two bytes of `pc - 1`, and a jump; the grid gives `0x20` the format ABS. -/
theorem jsrPushesReturnAddressAndJumps : Obligations.JsrPushesReturnAddressAndJumps := by
  unfold Obligations.JsrPushesReturnAddressAndJumps
  refine ⟨fun w s => ?answer, fun s hop => ⟨_, makeWord_toNat _ _, step_jsr hop⟩⟩
  obtain ⟨hhigh, hlow, hother⟩ := exec_jsr_cells (exec_jsr w s)
  refine ⟨_, exec_jsr w s, rfl, exec_jsr_sp (exec_jsr w s), ?word, hother, ⟨rfl, rfl, rfl, rfl⟩,
    continued_continued _ _⟩
  rw [hhigh, hlow, ← makeWord_toNat, makeWord_high_low, BitVec.toNat_sub, Nat.add_comm]
  rfl

/-- Settles O12: RTS is two pops and a jump one past the word they give; the grid gives `0x60` the format IMP. -/
theorem rtsReturnsPastPulledWord : Obligations.RtsReturnsPastPulledWord := by
  unfold Obligations.RtsReturnsPastPulledWord
  refine ⟨fun s => ⟨_, exec_rts s, ?pc, exec_rts_sp (exec_rts s), ⟨rfl, rfl, rfl, rfl⟩, fun _ => rfl,
    continued_continued _ _⟩, fun s hop => step_rts hop⟩
  rw [exec_rts_pc (exec_rts s), makeWord_add_one_toNat]

theorem sub_two_add_one (sp : Byte) : sp - 2#8 + 1#8 = sp - 1#8 := by bv_omega

/-- Settles O43: the RTS reads the two cells the JSR wrote, which hold the word one before the next instruction. -/
theorem jsrRtsRoundTrip : Obligations.JsrRtsRoundTrip := by
  unfold Obligations.JsrRtsRoundTrip
  intro s t u hjsr hstep hrts hsp hcell hcell'
  rw [step_jsr hjsr] at hstep
  obtain ⟨hhigh, hlow, -⟩ := exec_jsr_cells hstep
  have husp := hsp.trans (exec_jsr_sp hstep)
  rw [State.setPc_sp] at hhigh hlow husp
  have hsp2 : u.sp + 2#8 = s.sp := by rw [husp, BitVec.sub_add_cancel]
  have hsp1 : u.sp + 1#8 = s.sp - 1#8 := by rw [husp, sub_two_add_one]
  obtain ⟨v, hv, -⟩ := everyStepCompletes u
  refine ⟨v, hv, ?pc, ?sp⟩ <;> rw [step_rts hrts] at hv
  case pc =>
    rw [exec_rts_pc hv, State.setPc_mem, State.setPc_sp, hsp2, hsp1, hcell, hhigh, hcell', hlow, makeWord_high_low,
      State.setPc_pc, BitVec.sub_add_cancel]
  case sp => rw [exec_rts_sp hv, State.setPc_sp, hsp2]

/-! ### The stack, last in first out -/

/-- Settles O41: after a push the pop reads the cell pushed to, and `sp` is back; PLA then sets its flags from the byte. -/
theorem phaPlaRoundTrip : Obligations.PhaPlaRoundTrip := by
  unfold Obligations.PhaPlaRoundTrip
  intro s
  have hbyte : (pop ((push s.a s).continued 0x48#8)).1 = s.a := by
    rw [pop_fst, State.continued_sp, push_sp_add_one, State.continued_mem, push_mem, Memory.read_write_same]
  refine ⟨_, _, exec_pha s, exec_pla _, hbyte, push_sp_add_one s.a s, fun b hb => ?other, ?flags⟩
  case other => exact Memory.read_write_other s.mem s.a hb
  case flags => rw [hbyte]; exact znFrom_setZN s.status s.a

/-- Pops in a row move `sp` up by their number, modulo 256. -/
theorem popMany_sp (n : Nat) (s : State) : (popMany n s).2.sp = s.sp + BitVec.ofNat 8 n := by
  induction n generalizing s with
  | zero => exact (BitVec.add_zero s.sp).symm
  | succ n ih => rw [popMany, ih, pop_snd, State.setSp_sp, BitVec.add_assoc, Nat.add_comm n, BitVec.ofNat_add]

/-- Pops in a row give the same bytes from memory with another byte in a cell that none of them reads. -/
theorem popMany_memWrite_other (n : Nat) (s : State) (a : Addr) (v : Byte)
    (h : ∀ j, 1 ≤ j → j ≤ n → stackAddr (s.sp + BitVec.ofNat 8 j) ≠ a) :
    (popMany n (s.memWrite a v)).1 = (popMany n s).1 := by
  induction n generalizing s with
  | zero => rfl
  | succ n ih =>
    have hhead : (pop (s.memWrite a v)).1 = (pop s).1 :=
      Memory.read_write_other s.mem v (h 1 (Nat.le_refl 1) (Nat.succ_le_succ (Nat.zero_le n)))
    have htail : (popMany n (pop (s.memWrite a v)).2).1 = (popMany n (pop s).2).1 := by
      refine ih (pop s).2 fun j h1 hj => ?_
      rw [pop_snd, State.setSp_sp, BitVec.add_assoc, ← BitVec.ofNat_add, Nat.add_comm]
      exact h (j + 1) (Nat.le_add_left 1 j) (Nat.succ_le_succ hj)
    rw [popMany, popMany, hhead, htail]

/-- A pop after a push leaves the pushed byte in its cell, and nothing else. -/
theorem pop_push_snd (v : Byte) (s : State) : (pop (push v s)).2 = s.memWrite (stackAddr s.sp) v :=
  State.eq_of_fields rfl rfl rfl (push_sp_add_one v s) rfl rfl rfl rfl rfl

theorem pop_push_fst (v : Byte) (s : State) : (pop (push v s)).1 = v := by
  rw [pop_fst, push_sp_add_one, push_mem, Memory.read_write_same]

theorem pushAll_concat (vs : List Byte) (v : Byte) (s : State) : pushAll (vs ++ [v]) s = push v (pushAll vs s) := by
  induction vs generalizing s with
  | nil => rfl
  | cons w vs ih => exact ih (push w s)

/-- The cells above `sp`, up to 255 of them, are not the cell of `sp`. -/
theorem stackAddr_add_ne (sp : Byte) {j : Nat} (h1 : 1 ≤ j) (hj : j ≤ 255) :
    stackAddr (sp + BitVec.ofNat 8 j) ≠ stackAddr sp := by
  refine stackAddr_ne fun h => ?_
  have hsum := congrArg BitVec.toNat h
  rw [BitVec.toNat_add, BitVec.toNat_ofNat] at hsum
  have := sp.isLt
  omega

/-- Up to 256 pushed bytes are popped in reverse order, by induction on the last byte pushed: it is the first popped,
and as many pops as there are bytes below it do not come round to its cell. -/
theorem popMany_pushAll_fst (vs : List Byte) (s : State) (hlen : vs.length ≤ 256) :
    (popMany vs.length (pushAll vs s)).1 = vs.reverse := by
  induction vs using List.reverseRecOn with
  | nil => rfl
  | append_singleton vs v ih =>
    rw [List.length_append, List.length_singleton] at hlen ⊢
    rw [pushAll_concat, popMany, pop_push_fst, pop_push_snd, List.reverse_concat,
      popMany_memWrite_other _ _ _ _ fun j h1 hj => stackAddr_add_ne _ h1 (by omega), ih (by omega)]

/-- Settles O42: the bytes by `popMany_pushAll_fst`, and `sp` as pops and pushes of the same number move it. -/
theorem stackIsLastInFirstOut : Obligations.StackIsLastInFirstOut := by
  unfold Obligations.StackIsLastInFirstOut
  refine fun vs s hlen => ⟨popMany_pushAll_fst vs s hlen, ?_⟩
  rw [popMany_sp, pushAll_sp, BitVec.sub_add_cancel]

/-! ### Which instructions move `sp` -/

/-- Settles O32: the sums of the four instructions that push or pop, and no other writes `sp`. -/
theorem stackPointerMovedOnlyByStackInstructions : Obligations.StackPointerMovedOnlyByStackInstructions := by
  unfold Obligations.StackPointerMovedOnlyByStackInstructions
  refine ⟨stackAddr_toNat, fun i s t h => ⟨?pha, ?pla, ?jsr, ?rts, fun hpha hpla hjsr hrts => ?others⟩, resetCore_sp⟩
  case pha => rintro rfl; obtain rfl := Host.Outcome.next.inj ((exec_pha s).symm.trans h); rfl
  case pla => rintro rfl; obtain rfl := Host.Outcome.next.inj ((exec_pla s).symm.trans h); rfl
  case jsr => rintro ⟨w, rfl⟩; exact exec_jsr_sp h
  case rts => rintro rfl; exact exec_rts_sp h
  case others =>
    rcases exec_next_cases h with ⟨b, -, rfl⟩ | ⟨b, -, rfl⟩ | ⟨b, -, rfl⟩ | ⟨b, -, rfl⟩ | ⟨w, -, rfl⟩ | ⟨-, rfl⟩ |
      ⟨b, -, rfl⟩ | ⟨b, -, rfl⟩ | ⟨hi, -⟩ | ⟨hi, -⟩ | ⟨w, hi, -⟩ | ⟨hi, -⟩ | ⟨-, rfl⟩ | ⟨op, -, rfl⟩
    · rfl -- LDA #
    · rfl -- LDX #
    · rfl -- LDY #
    · rfl -- STA zp
    · rfl -- STA abs
    · rfl -- INX
    · rfl -- ADC #
    · rfl -- SBC #
    · exact absurd hi hpha
    · exact absurd hi hpla
    · exact absurd hi (hjsr w)
    · exact absurd hi hrts
    · rfl -- BRK
    · rfl -- an unknown opcode

/-! ### Which instructions move `pc` -/

/-- An instruction that is no control transfer leaves `pc` where the fetch put it. -/
theorem exec_pc_of_not_jump {i : Instr} {s t : State} (h : exec i s = .next t) (hjsr : i.opcode ≠ 0x20#8)
    (hrts : i.opcode ≠ 0x60#8) : t.pc = s.pc := by
  rcases exec_next_cases h with ⟨b, -, rfl⟩ | ⟨b, -, rfl⟩ | ⟨b, -, rfl⟩ | ⟨b, -, rfl⟩ | ⟨w, -, rfl⟩ | ⟨-, rfl⟩ |
    ⟨b, -, rfl⟩ | ⟨b, -, rfl⟩ | ⟨-, rfl⟩ | ⟨-, rfl⟩ | ⟨w, rfl, -⟩ | ⟨rfl, -⟩ | ⟨-, rfl⟩ | ⟨op, -, rfl⟩
  · rfl -- LDA #
  · rfl -- LDX #
  · rfl -- LDY #
  · rfl -- STA zp
  · rfl -- STA abs
  · rfl -- INX
  · rfl -- ADC #
  · rfl -- SBC #
  · rfl -- PHA
  · rfl -- PLA
  · exact absurd rfl hjsr
  · exact absurd rfl hrts
  · rfl -- BRK
  · rfl -- an unknown opcode

/-- Settles O33: JSR and RTS by what they answer, every other opcode by the length the fetch has moved `pc`. -/
theorem programCounterAfterStep : Obligations.ProgramCounterAfterStep := by
  unfold Obligations.ProgramCounterAfterStep
  refine fun s t h => ⟨fun hop => ?jsr, fun hop => ?rts, fun hjsr hrts => ?others⟩
  case jsr =>
    rw [step_jsr hop, exec_jsr] at h
    obtain rfl := Host.Outcome.next.inj h
    exact makeWord_toNat _ _
  case rts =>
    rw [step_rts hop] at h
    rw [exec_rts_pc h, makeWord_add_one_toNat]
    rfl
  case others =>
    obtain ⟨i, hop, hexec⟩ := step_eq_exec_of_next h
    rw [exec_pc_of_not_jump hexec (hop ▸ hjsr) (hop ▸ hrts), State.setPc_pc, BitVec.toNat_add, BitVec.toNat_ofNat,
      Nat.add_mod_mod]

end Sys2Proof.Machine

/-! Which bytes a step can change; a store seen by the next fetch; and SBC as the ADC of a complement (R41, R43, R107,
R108). -/

namespace Sys2Proof.Machine

open Sys2Proof.Claims

/-! ### Stores -/

theorem step_staZp {s : State} (h : opcodeAt s = 0x85#8) :
    step s = exec (.staZp (byteAt s 1)) (s.setPc (s.pc + 2#16)) :=
  step_zp (by rw [h, opcodeEntry_staZp])

theorem step_staAbs {s : State} (h : opcodeAt s = 0x8D#8) :
    step s = exec (.staAbs (makeWord (byteAt s 2) (byteAt s 1))) (s.setPc (s.pc + 3#16)) :=
  step_abs (by rw [h, opcodeEntry_staAbs])

/-- A write changes no byte but the one at its address. -/
theorem eq_of_read_write_ne {m : Memory} {a b : Addr} {v : Byte} (h : (m.write a v).read b ≠ m.read b) : b = a := by
  by_contra hb
  exact h (Memory.read_write_other m v hb)

/-- Settles O34: an instruction that changes a byte is one of the four that write; which byte, its own answer says. -/
theorem memoryChangedOnlyByStores : Obligations.MemoryChangedOnlyByStores := by
  unfold Obligations.MemoryChangedOnlyByStores
  intro s t h b hb
  obtain ⟨i, hop, hexec⟩ := step_eq_exec_of_next h
  obtain hm | ⟨zp, rfl, -⟩ | ⟨w, rfl, -⟩ | ⟨rfl, hm⟩ | ⟨w, rfl, -⟩ := exec_mem_cases hexec
  · exact absurd (by rw [hm, State.setPc_mem]) hb
  · have hop' : opcodeAt s = 0x85#8 := hop.symm -- STA zp
    rw [step_staZp hop', exec_staZp] at h
    obtain rfl := Host.Outcome.next.inj h
    obtain rfl := eq_of_read_write_ne hb
    exact .inl ⟨hop', zeroPageAddr_toNat _⟩
  · have hop' : opcodeAt s = 0x8D#8 := hop.symm -- STA abs
    rw [step_staAbs hop', exec_staAbs] at h
    obtain rfl := Host.Outcome.next.inj h
    obtain rfl := eq_of_read_write_ne hb
    exact .inr (.inl ⟨hop', makeWord_toNat _ _⟩)
  · rw [hm] at hb -- PHA
    exact .inr (.inr (.inl ⟨hop.symm, eq_of_read_write_ne hb⟩))
  · have hop' : opcodeAt s = 0x20#8 := hop.symm -- JSR
    obtain ⟨-, -, hother⟩ := exec_jsr_cells hexec
    refine .inr (.inr (.inr ⟨hop', ?_⟩))
    by_contra hcells
    rw [not_or] at hcells
    obtain ⟨hne, hne'⟩ := hcells
    exact hb (hother b hne hne')

/-- Settles O40: the store goes to the address `pc` has after the step, and the fetch reads memory as it then is. -/
theorem storeSeenByNextFetch : Obligations.StoreSeenByNextFetch := by
  unfold Obligations.StoreSeenByNextFetch
  intro s t hop haddr hstep
  have hnext : makeWord (byteAt s 2) (byteAt s 1) = s.pc + 3#16 := by
    apply BitVec.eq_of_toNat_eq
    rw [makeWord_toNat, haddr, BitVec.toNat_add]
    rfl
  rw [step_staAbs hop, exec_staAbs, absoluteAddr, hnext] at hstep
  obtain rfl := Host.Outcome.next.inj hstep
  have hbyte := Memory.read_write_same s.mem (s.pc + 3#16) s.a
  obtain ⟨hopcode, -⟩ := fetchInstr_spec
    (((s.setPc (s.pc + 3#16)).memWrite (s.pc + 3#16) (s.setPc (s.pc + 3#16)).a).continued 0x8D#8)
  exact ⟨hbyte, hopcode.trans hbyte⟩

/-! ### SBC and ADC -/

/-- SBC's narrowed difference is ADC's narrowed sum with the complement, whatever the carry (R108). -/
theorem sbcDifference_narrowed_eq_adcSum (a m : Byte) (c : Nat) :
    BitVec.ofInt 8 (sbcDifference a m c) = BitVec.ofNat 8 (adcSum a (~~~m) c) := by
  have hneg : a - m - 1#8 = a + ~~~m := by
    rw [BitVec.sub_eq_add_neg a m, BitVec.neg_eq_not_add, ← BitVec.add_assoc, BitVec.add_sub_cancel]
  rw [sbcDifference_narrowed, adcSum_narrowed, hneg]

/-- Settles O44: both write the same byte and SetZN of it; Carry is the one bit of the two that only ADC writes. -/
theorem sbcIsAdcOfComplement : Obligations.SbcIsAdcOfComplement := by
  unfold Obligations.SbcIsAdcOfComplement
  refine ⟨fun m s t u ht hu => ?complement, fun s t hcarry h => ?adcZero, fun s t hcarry h => ?sbcZero⟩
  case complement =>
    have hkeep := exec_carry_of_ne_adc ht (by simp)
    rw [exec_sbc, sbcDifference_narrowed_eq_adcSum] at ht
    rw [exec_adc] at hu
    obtain rfl := Host.Outcome.next.inj ht
    obtain rfl := Host.Outcome.next.inj hu
    obtain ⟨hzero, hneg, -⟩ := znFrom_setZN s.status (BitVec.ofNat 8 (adcSum s.a (~~~m) (carryIn s.status)))
    obtain ⟨-, hzero', hneg', -⟩ := setZN_setCarry_bits s.status
      (BitVec.ofNat 8 (adcSum s.a (~~~m) (carryIn s.status))) (decide (adcSum s.a (~~~m) (carryIn s.status) > 255))
    exact ⟨rfl, hzero.trans hzero'.symm, hneg.trans hneg'.symm, hkeep⟩
  case adcZero =>
    have hsum := exec_carry_of_adc h
    rw [exec_adc, adcSum_narrowed, carryIn_eq, hcarry] at h
    obtain rfl := Host.Outcome.next.inj h
    refine ⟨?same, ?carry⟩
    case same => exact (BitVec.add_zero _).trans (BitVec.add_zero _)
    case carry =>
      rw [hsum, hcarry, decide_eq_false_iff_not]
      exact Nat.not_lt.mpr (Nat.le_of_lt_succ s.a.isLt)
  case sbcZero =>
    rw [exec_sbc, sbcDifference_narrowed, carryIn_eq, hcarry] at h
    obtain rfl := Host.Outcome.next.inj h
    exact (BitVec.sub_add_cancel _ _).trans (BitVec.sub_zero _)

end Sys2Proof.Machine

/-! What no instruction reads: `y`, but for INX `x`, and Zero and Negative (R12, R13, R18, R19). -/

namespace Sys2Proof.Machine

open Sys2Proof.Claims

/-- The fetch reads `pc` and memory and nothing else, so a step from another state with the same two runs the same
instruction, with `pc` in the same place. -/
theorem step_of_same_pc_mem {s s' : State} (hpc : s'.pc = s.pc) (hmem : s'.mem = s.mem) :
    step s' = exec (fetchInstr s).1 (s'.setPc (fetchInstr s).2.pc) := by
  rw [step]
  cases h : opcodeEntry (s.mem.read s.pc) with
  | imp i => rw [fetchInstr_imp h, fetchInstr_imp (s := s') (by rw [hpc, hmem, h]), hpc]; rfl
  | imm make => rw [fetchInstr_imm h, fetchInstr_imm (s := s') (by rw [hpc, hmem, h]), hpc, hmem]; rfl
  | zp make => rw [fetchInstr_zp h, fetchInstr_zp (s := s') (by rw [hpc, hmem, h]), hpc, hmem]; rfl
  | abs make => rw [fetchInstr_abs h, fetchInstr_abs (s := s') (by rw [hpc, hmem, h]), hpc, hmem]; rfl

theorem fetchInstr_opcode (s : State) : (fetchInstr s).1.opcode = opcodeAt s := (fetchInstr_spec s).1

/-- None of the thirteen is the opcode of an unknown instruction. -/
theorem opcode_ne_of_unknownByte {i : Instr} {op b : Byte} (hbyte : i.unknownByte = some op)
    (hb : b ∈ recognisedBytes) : i.opcode ≠ b := by
  obtain ⟨rfl, hnot⟩ := Instr.opcode_of_unknownByte hbyte
  exact fun hop => hnot (hop ▸ hb)

/-! ### The registers `x` and `y` -/

/-- No instruction reads `y`, and LDY alone writes it (R13). -/
theorem exec_setY {i : Instr} {s t : State} (h : exec i s = .next t) (v : Byte) :
    exec i (s.setY v) = .next (if i.opcode = 0xA0#8 then t else t.setY v) := by
  induction i using Instr.cases_unknown
  case unknown i op hbyte =>
    rw [exec_of_unknownByte hbyte] at h ⊢
    obtain rfl := Host.Outcome.next.inj h
    rw [if_neg (opcode_ne_of_unknownByte hbyte (by decide))]
    rfl
  all_goals
    obtain rfl := Host.Outcome.next.inj h
    rfl

/-- No instruction but INX reads `x`, and of the others LDX alone writes it (R12). -/
theorem exec_setX {i : Instr} {s t : State} (h : exec i s = .next t) (hinx : i.opcode ≠ 0xE8#8) (v : Byte) :
    exec i (s.setX v) = .next (if i.opcode = 0xA2#8 then t else t.setX v) := by
  induction i using Instr.cases_unknown
  case inx => exact absurd rfl hinx
  case unknown i op hbyte =>
    rw [exec_of_unknownByte hbyte] at h ⊢
    obtain rfl := Host.Outcome.next.inj h
    rw [if_neg (opcode_ne_of_unknownByte hbyte (by decide))]
    rfl
  all_goals
    obtain rfl := Host.Outcome.next.inj h
    rfl

theorem step_inx {s : State} (h : opcodeAt s = 0xE8#8) : step s = exec .inx (s.setPc (s.pc + 1#16)) :=
  step_imp (by rw [h, opcodeEntry_inx])

/-- Settles O35: the fetch reads neither register, and of the instructions only INX reads one; its flags are the only
place but `x` where what it read goes. -/
theorem xAndYInfluenceNothingElse : Obligations.XAndYInfluenceNothingElse := by
  unfold Obligations.XAndYInfluenceNothingElse
  refine ⟨fun s t v h => ?y, fun s t v h hinx => ?x, fun s t v h hinx => ?inx⟩
  case y =>
    rw [step_of_same_pc_mem (s := s) rfl rfl] at h
    rw [step_of_same_pc_mem (s := s) (s' := s.setY v) rfl rfl, ← fetchInstr_opcode]
    exact exec_setY h v
  case x =>
    rw [step_of_same_pc_mem (s := s) rfl rfl] at h
    rw [← fetchInstr_opcode] at hinx
    rw [step_of_same_pc_mem (s := s) (s' := s.setX v) rfl rfl, ← fetchInstr_opcode]
    exact exec_setX h hinx v
  case inx =>
    rw [step_inx hinx, exec_inx] at h
    obtain rfl := Host.Outcome.next.inj h
    refine ⟨_, (step_inx (s := s.setX v) hinx).trans (exec_inx _), ⟨rfl, rfl, rfl, rfl, rfl, rfl, fun k h1 h7 => ?_⟩,
      rfl, rfl⟩
    exact (setZN_bit_other s.status (v + 1#8) h1 h7).trans (setZN_bit_other s.status (s.x + 1#8) h1 h7).symm

/-! ### Zero and Negative -/

/-- Two status bytes that differ at most in Zero and Negative. -/
def SameButZN (st st' : Byte) : Prop := ∀ k, k ≠ 1 → k ≠ 7 → st'.getLsbD k = st.getLsbD k

theorem SameButZN.setZN {st st' : Byte} (h : SameButZN st st') (v : Byte) :
    SameButZN (setZN st v) (setZN st' v) := by
  intro k h1 h7
  rw [setZN_bit_other _ _ h1 h7, setZN_bit_other _ _ h1 h7, h k h1 h7]

theorem SameButZN.setCarry {st st' : Byte} (h : SameButZN st st') (c : Bool) :
    SameButZN (setCarry st c) (setCarry st' c) := by
  intro k h1 h7
  rw [setCarry_bit, setCarry_bit, h k h1 h7]

theorem SameButZN.carryIn_eq {st st' : Byte} (h : SameButZN st st') : carryIn st' = carryIn st := by
  rw [Machine.carryIn_eq, Machine.carryIn_eq, h 0 (by decide) (by decide)]

/-- No instruction reads Zero or Negative: from a status that differs at most there it answers the same state, but for a
status that differs at most there (R18, R19). -/
theorem exec_setStatus {i : Instr} {s t : State} (h : exec i s = .next t) {st : Byte} (hst : SameButZN s.status st) :
    ∃ st', exec i (s.setStatus st) = .next (t.setStatus st') ∧ SameButZN t.status st' := by
  induction i using Instr.cases_unknown
  case adc b =>
    obtain rfl := Host.Outcome.next.inj ((exec_adc b s).symm.trans h)
    refine ⟨_, ?_, (hst.setCarry _).setZN _⟩
    rw [exec_adc, State.setStatus_status, hst.carryIn_eq]
    rfl
  case sbc b =>
    obtain rfl := Host.Outcome.next.inj ((exec_sbc b s).symm.trans h)
    refine ⟨_, ?_, hst.setZN _⟩
    rw [exec_sbc, State.setStatus_status, hst.carryIn_eq]
    rfl
  case unknown i op hbyte =>
    rw [exec_of_unknownByte hbyte] at h ⊢
    obtain rfl := Host.Outcome.next.inj h
    exact ⟨st, rfl, hst⟩
  case lda | ldx | ldy | inx | pla =>
    obtain rfl := Host.Outcome.next.inj h
    exact ⟨_, rfl, hst.setZN _⟩
  case staZp | staAbs | pha | jsr | rts | brk =>
    obtain rfl := Host.Outcome.next.inj h
    exact ⟨st, rfl, hst⟩

/-- Settles O36: the other state is this one with another status and other outputs; no step reads the outputs, the fetch
does not read the status, and `exec_setStatus` is what an instruction does. -/
theorem zeroAndNegativeInfluenceNothingElse : Obligations.ZeroAndNegativeInfluenceNothingElse := by
  unfold Obligations.ZeroAndNegativeInfluenceNothingElse
  rintro s s' t ⟨ha, hx, hy, hsp, hpc, hmem, hst⟩ h
  have hs' : s' = (s.setStatus s'.status).setOutput s'.outcome s'.report :=
    State.eq_of_fields ha hx hy hsp hpc rfl hmem rfl rfl
  rw [step_of_same_pc_mem (s := s) rfl rfl] at h
  obtain ⟨st', hexec, hagree⟩ := exec_setStatus h hst
  refine ⟨t.setStatus st', ?_, ⟨rfl, rfl, rfl, rfl, rfl, rfl, hagree⟩, rfl, rfl⟩
  rw [hs', step_setOutput, step_of_same_pc_mem (s := s) (s' := s.setStatus s'.status) rfl rfl]
  exact hexec

end Sys2Proof.Machine

/-! The host's load, reads and writes, and the boot of a loaded machine (R31, R46, R47, R131, R154). -/

namespace Sys2Proof.Machine

/-! ### Memory after a load -/

/-- The vector is written last, so it names the start address even where the image covers it (R46). -/
theorem read_load_vector (m : Memory) (start : Addr) (bytes : List Byte) :
    (m.load start bytes).read 0xFFFC#16 = lowByte start ∧ (m.load start bytes).read 0xFFFD#16 = highByte start := by
  have hne : (0xFFFC#16 : Addr) ≠ 0xFFFD#16 := by decide
  exact ⟨(Memory.read_write_other _ _ hne).trans (Memory.read_write_same _ _ _), Memory.read_write_same _ _ _⟩

/-- Outside the vector a load is its image. -/
theorem read_load_of_ne_vector (m : Memory) (start : Addr) (bytes : List Byte) {b : Addr} (hlow : b ≠ 0xFFFC#16)
    (hhigh : b ≠ 0xFFFD#16) : (m.load start bytes).read b = (m.writeBytes start bytes).read b :=
  (Memory.read_write_other _ _ hhigh).trans (Memory.read_write_other _ _ hlow)

theorem ofNat_toNat_add (start : Addr) (k : Nat) :
    BitVec.ofNat 16 (start.toNat + k) = start + BitVec.ofNat 16 k := by
  rw [BitVec.ofNat_add, BitVec.ofNat_toNat, BitVec.setWidth_eq]

/-- A place of an image that ends within memory, as a number. -/
theorem toNat_add_of_lt {start : Addr} {k : Nat} (h : start.toNat + k < 65536) :
    (start + BitVec.ofNat 16 k).toNat = start.toNat + k := by
  rw [← ofNat_toNat_add, BitVec.toNat_ofNat, Nat.mod_eq_of_lt h]

/-- Settles O48: a read after the load is one of the vector, of the image, or of what was there before. -/
theorem loadCopiesImageAndWritesVector : Obligations.LoadCopiesImageAndWritesVector := by
  unfold Obligations.LoadCopiesImageAndWritesVector
  refine ⟨fun bytes start s hfits => ?_, fun _ _ => rfl⟩
  obtain ⟨hlow, hhigh⟩ := read_load_vector s.mem start bytes
  refine ⟨_, hostLoad_eq_next.mpr ⟨hfits, rfl⟩, fun k hk hk1 hk2 => ?image, ?low, ?high, fun b hb1 hb2 hb => ?outside,
    ⟨rfl, rfl, rfl, rfl⟩, rfl, rfl⟩ <;> rw [State.setMem_mem]
  case low => rw [hlow, lowByte, BitVec.toNat_ofNat]
  case high => rw [hhigh, highByte, BitVec.toNat_ofNat, Nat.mod_eq_of_lt (by have := start.isLt; omega)]
  case image =>
    have hplace : (start + BitVec.ofNat 16 k).toNat = start.toNat + k := toNat_add_of_lt (by omega)
    rw [ofNat_toNat_add, read_load_of_ne_vector _ _ _ (fun h => hk1 ?_) (fun h => hk2 ?_),
      Memory.read_writeBytes _ _ _ _ hk (by omega)]
    · rw [← hplace, h]; rfl
    · rw [← hplace, h]; rfl
  case outside =>
    rw [read_load_of_ne_vector _ _ _ hb1 hb2, Memory.read_writeBytes_other]
    intro k hk h
    have hplace : b.toNat = start.toNat + k := h ▸ toNat_add_of_lt (by omega)
    omega

/-- Settles O49: the load's one check. -/
theorem loadPastEndRefused : Obligations.LoadPastEndRefused := by
  unfold Obligations.LoadPastEndRefused
  intro bytes start s h
  exact if_neg (Nat.not_le.mpr h)

/-! ### Boot -/

/-- Settles O52: reset reads `pc` from the vector, which the load has just written. -/
theorem bootStartsAtLoadAddress : Obligations.BootStartsAtLoadAddress := by
  unfold Obligations.BootStartsAtLoadAddress
  refine ⟨fun bytes start s t h => ⟨?pc, rfl, rfl, rfl, rfl, rfl, fun _ => rfl⟩, fun s => Memory.readWord_toNat _ _ _⟩
  obtain ⟨-, rfl⟩ := hostLoad_eq_next.mp h
  obtain ⟨hlow, hhigh⟩ := read_load_vector s.mem start bytes
  rw [resetCore_pc_eq_makeWord, State.setMem_mem, hlow, hhigh, makeWord_high_low]

/-- Settles O53: both have the loaded memory and `pc` at the load address, and every other field as after reset. -/
theorem fetchWordPlacedByBoot : Obligations.FetchWordPlacedByBoot := by
  unfold Obligations.FetchWordPlacedByBoot
  intro nbits w t h
  obtain ⟨hboot, -⟩ := bootStartsAtLoadAddress
  obtain ⟨hpc, -⟩ := hboot _ _ _ _ h
  obtain ⟨-, rfl⟩ := hostLoad_eq_next.mp h
  exact State.eq_of_fields rfl rfl rfl rfl hpc.symm rfl rfl rfl rfl

/-- Settles O47: with no byte listed, each reads as MEM_INIT, the vector's two among them. -/
theorem resetStateIsUnloadedMachine : Obligations.ResetStateIsUnloadedMachine := by
  unfold Obligations.ResetStateIsUnloadedMachine
  refine ⟨State.reset_eq_resetCore, Memory.read_nil, ?pc⟩
  rw [State.reset_pc, makeWord_toNat]

/-! ### Single bytes -/

theorem hostRead_of_lt {addr : Nat} (h : addr < 65536) (s : State) :
    hostRead addr s = .ok (s.mem.read (BitVec.ofNat 16 addr)) := if_pos h

theorem ofNat_ne_of_lt {a b : Nat} (ha : a < 65536) (hb : b < 65536) (h : b ≠ a) :
    BitVec.ofNat 16 b ≠ BitVec.ofNat 16 a := by
  intro he
  have := congrArg BitVec.toNat he
  rw [BitVec.toNat_ofNat, BitVec.toNat_ofNat, Nat.mod_eq_of_lt ha, Nat.mod_eq_of_lt hb] at this
  exact h this

/-- Settles O50: within the space the host's write is one write of memory and its read a read of it. -/
theorem hostReadsAndWritesBytes : Obligations.HostReadsAndWritesBytes := by
  unfold Obligations.HostReadsAndWritesBytes
  intro addr value s haddr
  refine ⟨_, hostWrite_eq_next.mpr ⟨haddr, rfl⟩, ⟨⟨rfl, rfl, rfl, rfl⟩, rfl, rfl⟩, ?same, fun b hb hne => ?other⟩
  case same => rw [hostRead_of_lt haddr, State.memWrite_mem, Memory.read_write_same]
  case other =>
    rw [hostRead_of_lt hb, hostRead_of_lt hb, State.memWrite_mem,
      Memory.read_write_other _ _ (ofNat_ne_of_lt haddr hb hne)]

/-- Settles O51: the host's accesses check their address; a step answers a next state whatever it does. -/
theorem outOfBoundsOnlyFromTheHost : Obligations.OutOfBoundsOnlyFromTheHost := by
  unfold Obligations.OutOfBoundsOnlyFromTheHost
  refine ⟨fun addr value s h => ⟨if_neg (Nat.not_lt.mpr h), if_neg (Nat.not_lt.mpr h)⟩, fun s f h => ?_,
    fun s r h => ?_⟩
  all_goals
    obtain ⟨t, hstep, -⟩ := everyStepCompletes s
    cases hstep.symm.trans h

end Sys2Proof.Machine

/-! The run: what the debug switch adds to it, how it goes on after a halt, and how the host's sessions follow it (R77,
R139, R140, R144). -/

namespace Sys2Proof.Machine

open Sys2Proof.Claims

@[simp] theorem RunResult.after_snapshots (r : RunResult) (snaps : List Snapshot) (report : Option Byte) :
    (r.after snaps report).snapshots = snaps ++ r.snapshots := rfl
@[simp] theorem RunResult.after_reports (r : RunResult) (snaps : List Snapshot) (report : Option Byte) :
    (r.after snaps report).reports = report.toList ++ r.reports := rfl

/-- Everything one iteration of a run can do, with debug on or off: its step is the last, or the run goes on (R79). -/
theorem run_succ_cases (s : State) :
    ∃ t, step s = .next t ∧
      ((t.outcome = some .halt ∧ ∀ debug fuel,
        run debug (fuel + 1) s = ⟨t, .halted, 1, debugSnapshot debug s, t.report.toList⟩) ∨
       (t.outcome ≠ some .halt ∧ ∀ debug fuel,
        run debug (fuel + 1) s = (run debug fuel t).after (debugSnapshot debug s) t.report)) := by
  obtain ⟨t, hstep, -⟩ := everyStepCompletes s
  refine ⟨t, hstep, ?_⟩
  by_cases ho : t.outcome = some .halt
  · exact .inl ⟨ho, fun debug fuel => run_halt debug fuel hstep ho⟩
  · exact .inr ⟨ho, fun debug fuel => run_go debug fuel hstep ho⟩

/-! ### The debug switch -/

/-- Settles O56, by induction on the fuel: each iteration is the same with debug on, but for its one snapshot. -/
theorem debugOnlyAddsSnapshots : Obligations.DebugOnlyAddsSnapshots := by
  unfold Obligations.DebugOnlyAddsSnapshots
  intro n s
  induction n generalizing s with
  | zero => exact ⟨rfl, rfl, rfl, rfl, rfl, rfl, fun h => absurd h (Nat.lt_irrefl 0)⟩
  | succ fuel ih =>
    obtain ⟨t, -, ⟨-, hrun⟩ | ⟨-, hrun⟩⟩ := run_succ_cases s <;> rw [hrun, hrun]
    · exact ⟨rfl, rfl, rfl, rfl, rfl, rfl, fun _ => rfl⟩
    · obtain ⟨hfinal, hended, hconsumed, hreports, hoff, hlength, -⟩ := ih t
      simp [debugSnapshot, hfinal, hended, hconsumed, hreports, hoff, hlength]

/-! ### A run after a halt -/

/-- A run with fuel does the same from a state with other outputs of the step before it. -/
theorem run_setOutput (debug : Bool) (fuel : Nat) (s : State) (o : Option StepOutcome) (r : Option Byte) :
    run debug (fuel + 1) (s.setOutput o r) = run debug (fuel + 1) s := by
  obtain ⟨t, hstep, ⟨ho, hrun⟩ | ⟨ho, hrun⟩⟩ := run_succ_cases s <;> rw [hrun]
  · exact run_halt debug fuel ((step_setOutput s o r).trans hstep) ho
  · exact run_go debug fuel ((step_setOutput s o r).trans hstep) ho

/-- Settles O57: the BRK has written the outputs and moved `pc`, and a run does not read the outputs. -/
theorem runResumesAfterHalt : Obligations.RunResumesAfterHalt := by
  unfold Obligations.RunResumesAfterHalt
  intro s t hop h debug n
  obtain rfl := Host.Outcome.next.inj ((step_brk hop).symm.trans h)
  exact run_setOutput debug n _ _ _

/-! ### Sessions -/

/-- What `Session.read` answers where no run is in progress. -/
theorem Session.read_idle_eq_next {s : State} {addr : Nat} {v : Byte} :
    (⟨s, .idle⟩ : Session).read addr = .next v ↔ hostRead addr s = .ok v := by
  rw [Session.read, Session.whenIdle_idle]
  cases hostRead addr s <;> simp

/-- Settles O58: every operation of the host goes through `Session.whenIdle`. -/
theorem hostActsOnlyBetweenRuns : Obligations.HostActsOnlyBetweenRuns := by
  unfold Obligations.HostActsOnlyBetweenRuns
  refine ⟨?running, ?idle⟩
  case running =>
    rintro ⟨s, _⟩ debug rfl
    exact ⟨fun _ => rfl, fun _ => rfl, rfl⟩
  case idle =>
    rintro ⟨s, _⟩ rfl
    exact ⟨fun _ _ _ => idleAfter_eq_next, fun _ _ _ => idleAfter_eq_next, rfl, fun _ => rfl,
      fun _ _ => Session.read_idle_eq_next, rfl⟩

/-- One iteration of a run in progress, told by the opcode at `pc`: the run has returned after a BRK alone. -/
theorem Session.advance_running_opcode (debug : Bool) (s : State) :
    ∃ t, step s = .next t ∧ (⟨s, .running debug⟩ : Session).advance =
      .next ⟨t, if opcodeAt s = 0x00#8 then .idle else .running debug⟩ := by
  obtain ⟨t, hstep, -⟩ := everyStepCompletes s
  obtain ⟨houtcome, -⟩ := stepOutcomeGivenByOpcode
  obtain ⟨hhalt, -⟩ := houtcome s t hstep
  exact ⟨t, hstep, by rw [Session.advance_running debug hstep, if_congr hhalt rfl rfl]⟩

/-- The iterations of a run lead where `run` leads, by induction on its fuel. -/
theorem advances_run (debug : Bool) (fuel : Nat) (s : State) :
    Advances (run debug fuel s).consumed ⟨s, .running debug⟩
      ⟨(run debug fuel s).final, if (run debug fuel s).ended = .halted then .idle else .running debug⟩ := by
  induction fuel generalizing s with
  | zero => exact .none _
  | succ fuel ih =>
    obtain ⟨t, hstep, ⟨ho, hrun⟩ | ⟨ho, hrun⟩⟩ := run_succ_cases s <;> rw [hrun] <;>
      refine .more (Session.advance_running debug hstep) ?_
    · rw [if_pos ho]
      exact .none _
    · rw [if_neg ho]
      exact ih t

/-- Settles O59: an iteration is a step, and as many iterations as a run consumed opcodes are that run. -/
theorem sessionFollowsRunLoop : Obligations.SessionFollowsRunLoop := by
  unfold Obligations.SessionFollowsRunLoop
  refine ⟨?idle, ?running, advances_run⟩
  case idle => rintro ⟨s, _⟩ rfl; rfl
  case running =>
    rintro ⟨s, _⟩ debug rfl
    obtain ⟨t, hstep, hadvance⟩ := Session.advance_running_opcode debug s
    exact ⟨_, hadvance, hstep, rfl⟩

end Sys2Proof.Machine
